-- ==== Sys2Proof/Word.lean ====
section
/-! DEFINITION. The bit types of the part: what the manual sends, checks or compares as bits. Everything the
manual counts (times, distances, positions, station numbers) is a plain `Nat` or `Int` instead. -/

namespace Sys2Proof

/-- One character of either line: the 8 data bits. -/
abbrev Byte := BitVec 8

/-- A CRC-16, in particular a track's signature (R4, R201). -/
abbrev Crc16 := BitVec 16

/-- The 48-bit number a part reads from its fuses (R163). -/
abbrev Serial := BitVec 48

/-- A set of station numbers 0 to 7, bit k for station k: a hold set (R202) or the taken marks (R163). -/
abbrev StationSet := BitVec 8

end Sys2Proof
end

