-- ==== Sys2Proof/Syntax.lean ====
section
/-! DEFINITION. The commands of the AL8: the names and records the manual's operands are made of, the host
requests, the race-bus payloads, and `Instr`, one constructor for each row of spec/opcode_table.json. -/

namespace Sys2Proof

/-! ## Named values -/

/-- The race phases, in the code order of R202 (DETACHED 0 to RESULTS 8). -/
inductive Phase where
  | detached | claiming | lobby | entry | grid | countdown | racing | finishing | results
  deriving DecidableEq, Repr

/-- The silent-car policies of R79, in code order. -/
inductive Policy where
  | hold | coast | drop
  deriving DecidableEq, Repr

/-- The car states of R25, in table order. -/
inductive CarState where
  | idle | entered | gridded | racing | silent | finished | retired | benched
  deriving DecidableEq, Repr

/-- Why a car was retired (R25, R30). -/
inductive RetireReason where
  | silence | withdrawn
  deriving DecidableEq, Repr

/-- The state an entry list gives an entrant (R69). -/
inductive EntryState where
  | entered | gridded | benched
  deriving DecidableEq, Repr

/-- Why the referee turned an ENTER away (R69, R82). -/
inductive RefusalReason where
  | full | trackMismatch
  deriving DecidableEq, Repr

/-- Why a race ended in LOBBY (R73): ABORT's two reasons and CLOSE's one. -/
inductive LobbyReason where
  | requested | abandoned | closed
  deriving DecidableEq, Repr

/-- The reason a CONTROL ABORT frame carries (R74). -/
inductive AbortReason where
  | requested | abandoned
  deriving DecidableEq, Repr

/-- The status of a results entry (R114, R115), in the code order of R204. -/
inductive ResultStatus where
  | finished | notClassified | retired | benched
  deriving DecidableEq, Repr

/-- The marks of a verdict (R108), bits 0 to 2 of the marks byte (R202). -/
structure Marks where
  deadHeat : Bool
  lateJudged : Bool
  unconfirmed : Bool
  deriving DecidableEq, Repr

/-- No mark set. -/
def Marks.clear : Marks := ⟨false, false, false⟩

/-! ## Records carried by requests and frames -/

/-- A report without its stamp, as CAR carries it (R34, R203). -/
structure CarFields where
  d : Nat
  v : Int
  lateral : Int
  heading : Nat
  extra : List Byte
  deriving DecidableEq, Repr

/-- A stamped report (R25 'last report'). -/
structure Report where
  stamp : Nat
  d : Nat
  v : Int
  lateral : Int
  heading : Nat
  extra : List Byte
  deriving DecidableEq, Repr

/-- The race options in force, in the order of the table of R79. -/
structure Options where
  laps : Nat
  policy : Policy
  silenceLimit : Nat
  retireLimit : Nat
  extrapolationCap : Nat
  coastCap : Nat
  settleWindow : Nat
  graceWindow : Nat
  minimumField : Nat
  entryWindow : Nat
  lightsCount : Nat
  lightInterval : Nat
  singleHold : Nat
  holdBudget : Nat
  deriving DecidableEq, Repr

/-- The track id and signature of the race (R69). -/
structure TrackRef where
  id : Nat
  signature : Crc16
  deriving DecidableEq, Repr

/-- The operands of OPEN (R79, R203): an option is `none` when it is sent absent; the policy is its code. -/
structure OpenFields where
  trackId : Nat
  signature : Crc16
  laps : Option Nat
  policy : Option Nat
  silenceLimit : Option Nat
  retireLimit : Option Nat
  extrapolationCap : Option Nat
  coastCap : Option Nat
  settleWindow : Option Nat
  graceWindow : Option Nat
  minimumField : Option Nat
  entryWindow : Option Nat
  lightsCount : Option Nat
  lightInterval : Option Nat
  singleHold : Option Nat
  holdBudget : Option Nat
  deriving DecidableEq, Repr

/-- The operands of SETUP (R188). `pin` is the pin code, 0xFF being 'none'; `eligible` is the byte sent. -/
structure SetupFields where
  pin : Nat
  eligible : Nat
  beatPeriod : Nat
  timeout : Nat
  latency : Nat
  label : List Byte
  deriving DecidableEq, Repr

/-- The operands of TRACK (R2). -/
structure TrackFields where
  id : Nat
  L : Nat
  S : Nat
  starts : List Nat
  deriving DecidableEq, Repr

/-- The two forms of ASK CAR (R46). -/
inductive CarName where
  | station (n : Nat)
  | slot (k : Nat)
  deriving DecidableEq, Repr

/-- The forms of TIME FORM (R122); `otherKind` is a kind that names neither ELAPSED nor GAP. -/
inductive TimeValue where
  | elapsed (e : Nat)
  | gap (g : Int)
  | otherKind (kind : Nat)
  deriving DecidableEq, Repr

/-- An entry of the entry list (R69), as CONTROL ENTRIES carries it too. -/
structure Entry where
  station : Nat
  slot : Option Nat
  state : EntryState
  deriving DecidableEq, Repr

/-- The last refusal (R69). -/
structure LastRefusal where
  station : Nat
  reason : RefusalReason
  deriving DecidableEq, Repr

/-- An entry of the results list (R114), as CONTROL RESULTS carries it too (R204). -/
structure ResultEntry where
  position : Option Nat
  station : Nat
  slot : Option Nat
  status : ResultStatus
  tfElapsed : Option Nat
  bestLap : Option Nat
  laps : Nat
  marks : Marks
  deriving DecidableEq, Repr

/-! ## Race-bus payloads (R204) -/

/-- The contents of a BEAT (R137, R204). -/
structure BeatFields where
  time : Nat
  phase : Phase
  raceNumber : Option Nat
  green : Option Nat
  holdSet : StationSet
  count : Nat
  deriving DecidableEq, Repr

/-- The contents of a VERDICT (R107, R204). -/
structure VerdictFields where
  raceNumber : Nat
  station : Nat
  position : Nat
  tf : Nat
  marks : Marks
  deriving DecidableEq, Repr

/-- The contents of a CONTROL RACE SETUP (R74, R204). -/
structure RaceSetupFields where
  raceNumber : Nat
  phase : Phase
  green : Option Nat
  options : Options
  trackRef : TrackRef
  deriving DecidableEq, Repr

/-- The contents of a CONTROL ENTRIES (R74, R204). -/
structure EntriesFields where
  raceNumber : Nat
  phase : Phase
  refusal : Option LastRefusal
  entries : List Entry
  deriving DecidableEq, Repr

/-- The contents of an ANNOUNCE (R165, R204). -/
structure AnnounceFields where
  serial : Serial
  pinned : Bool
  eligible : Bool
  label : List Byte
  deriving DecidableEq, Repr

/-! ## Host requests -/

/-- The payload of a known request kind: one of the forms the request allows, or bytes that are none of them
(R183). -/
inductive Form (α : Type) where
  | form (a : α)
  | malformed (payload : List Byte)
  deriving DecidableEq, Repr

/-- The 20 requests of the request index, each with its payload. -/
inductive Request where
  | setup (p : Form SetupFields)
  | track (p : Form TrackFields)
  | attach (p : Form Unit)
  | detach (p : Form Unit)
  | restart (p : Form Unit)
  | enter (p : Form Unit)
  | leave (p : Form Unit)
  | ready (p : Form Unit)
  | hold (p : Form Unit)
  | car (p : Form CarFields)
  | openRace (p : Form OpenFields)
  | formGrid (p : Form (List Nat))
  | abort (p : Form Unit)
  | close (p : Form Unit)
  | askCar (p : Form CarName)
  | askOrder (p : Form Unit)
  | askResults (p : Form Unit)
  | askStatus (p : Form Bool)
  | timeForm (p : Form TimeValue)
  | fetch (p : Form Unit)
  deriving DecidableEq, Repr

/-! ## Faulty input -/

/-- A good link frame whose kind byte names no request, with what it carries (R183). -/
structure UnknownFrame where
  kind : Byte
  payload : List Byte
  deriving DecidableEq, Repr

/-- What makes a received race-bus frame bad (R152): a character fault, or characters (arbitration character to
check) that are no good frame. -/
inductive FrameFault where
  | stopBitDominant
  | startBitMissing
  | characters (chars : List Byte)
  deriving DecidableEq, Repr

/-- The strap pins as last sampled while RESET was low (R142, R178). `true` is a high pin. -/
structure Straps where
  linkRate0 : Bool
  linkRate1 : Bool
  busRate : Bool
  deriving DecidableEq, Repr

/-! ## The commands -/

/-- The steps of the AL8, one constructor for each row of spec/opcode_table.json, in its order. -/
inductive Instr where
  /-- SETUP (R188) -/
  | setup (p : Form SetupFields)
  /-- TRACK (R2) -/
  | track (p : Form TrackFields)
  /-- ATTACH (R164) -/
  | attach (p : Form Unit)
  /-- DETACH (R200) -/
  | detach (p : Form Unit)
  /-- RESTART (R187) -/
  | restart (p : Form Unit)
  /-- ENTER (R81) -/
  | enter (p : Form Unit)
  /-- LEAVE (R86) -/
  | leave (p : Form Unit)
  /-- READY (R89) -/
  | ready (p : Form Unit)
  /-- HOLD (R89) -/
  | hold (p : Form Unit)
  /-- CAR (R34 to R36) -/
  | car (p : Form CarFields)
  /-- OPEN (R79) -/
  | openRace (p : Form OpenFields)
  /-- FORM_GRID (R85); the station list, empty when none is given -/
  | formGrid (p : Form (List Nat))
  /-- ABORT (R101) -/
  | abort (p : Form Unit)
  /-- CLOSE (R102) -/
  | close (p : Form Unit)
  /-- ASK_CAR (R46) -/
  | askCar (p : Form CarName)
  /-- ASK_ORDER (R65) -/
  | askOrder (p : Form Unit)
  /-- ASK_RESULTS (R119) -/
  | askResults (p : Form Unit)
  /-- ASK_STATUS (R192); the operand is the clear option -/
  | askStatus (p : Form Bool)
  /-- TIME_FORM (R122) -/
  | timeForm (p : Form TimeValue)
  /-- FETCH (R196) -/
  | fetch (p : Form Unit)
  /-- UNKNOWN_KIND (R183): a good frame of a kind byte that names no request -/
  | unknownKind (frame : UnknownFrame)
  /-- LINK_CHECK_ERROR (R179): a complete frame with this kind, payload and (wrong) check byte -/
  | linkCheckError (kind : Byte) (payload : List Byte) (check : Byte)
  /-- LINK_FRAMING_FAULT (R182): the good characters since the receiver's present state, then a faulty one -/
  | linkFramingFault (chars : List Byte)
  /-- LINK_LENGTH_ERROR (R180): the length byte received -/
  | linkLengthError (length : Byte)
  /-- LINK_STALL_TIMEOUT (R181): the good characters since the receiver's present state, then 5 ms of silence -/
  | linkStallTimeout (chars : List Byte)
  /-- REPLY_SENT (R184): the last character of the reply being sent has gone out on TXD -/
  | replySent
  /-- RESTART_PERFORMED (R199) -/
  | restartPerformed
  /-- POWER_ON (R198), with the straps as last sampled -/
  | powerOn (straps : Straps)
  /-- RESET_PIN (R198): low and released, with the straps as last sampled -/
  | resetPin (straps : Straps)
  /-- FRAME_START (R148); `won` when every bit of the arbitration part has read as sent (R149) -/
  | frameStart (won : Bool)
  /-- ARBITRATION_LOST (R149) -/
  | arbitrationLost
  /-- MISMATCH (R150) -/
  | mismatch
  /-- ATTEMPT_END (R158), with what the sender reads: acknowledge slot and objection slot dominant or not (R154) -/
  | attemptEnd (acknowledged objected : Bool)
  /-- LINE_IDLE (R144) -/
  | lineIdle
  /-- BUS_STUCK (R145) -/
  | busStuck
  /-- BUS_CLEAR (R146) -/
  | busClear
  /-- BAD_FRAME (R152) -/
  | badFrame (fault : FrameFault)
  /-- BEAT (R127) from a source station -/
  | beat (source : Nat) (b : BeatFields)
  /-- VERDICT (R110) -/
  | verdict (source : Nat) (v : VerdictFields)
  /-- HOLD_STATE (R90) -/
  | holdState (source raceNumber : Nat) (holding : Bool)
  /-- RACE_SETUP (R74) -/
  | raceSetup (source : Nat) (r : RaceSetupFields)
  /-- ENTRIES (R28, R74) -/
  | entries (source : Nat) (e : EntriesFields)
  /-- RETIRE (R30) -/
  | retire (source raceNumber station : Nat) (reason : RetireReason)
  /-- RESULTS (R117) -/
  | results (source raceNumber : Nat) (list : List ResultEntry)
  /-- CONTROL_ABORT (R101) -/
  | controlAbort (source raceNumber : Nat) (reason : AbortReason)
  /-- ENTRY_ENTER (R82) -/
  | entryEnter (source raceNumber : Nat) (signature : Crc16)
  /-- ENTRY_LEAVE (R87) -/
  | entryLeave (source raceNumber : Nat)
  /-- REPORT (R37) -/
  | report (source raceNumber : Nat) (r : Report)
  /-- ANNOUNCE (R165) -/
  | announce (source : Nat) (a : AnnounceFields)
  /-- CLAIM (R168): the claimant's serial and wanted number -/
  | claim (serial : Serial) (wanted : Nat)
  /-- GREEN (R97) -/
  | green
  /-- LIGHTS (R96) -/
  | lights
  /-- CAR_SILENT (R42) of a station's car -/
  | carSilent (station : Nat)
  /-- RETIRE_LIMIT (R98) of a station's car -/
  | retireLimit (station : Nat)
  /-- BENCH_DEADLINE (R91) of an entrant -/
  | benchDeadline (station : Nat)
  /-- ENTRY_WINDOW (R84) -/
  | entryWindow
  /-- SETTLE_DUE (R107) -/
  | settleDue
  /-- GRACE_DEADLINE (R109) -/
  | graceDeadline
  /-- LISTEN_DEADLINE (R164) -/
  | listenDeadline
  /-- CLAIM_RETRY (R167) -/
  | claimRetry
  /-- STATION_QUIET (R166) of a directory entry -/
  | stationQuiet (station : Nat)
  /-- STATION_REMOVED (R166) of a directory entry -/
  | stationRemoved (station : Nat)
  /-- WATCHDOG_EXPIRY (R132) -/
  | watchdogExpiry
  /-- BEAT_TIMER (R137) -/
  | beatTimer
  /-- TIME_BASE_TICK (R125) -/
  | timeBaseTick
  deriving DecidableEq, Repr

end Sys2Proof
end

