-- ==== Sys2Proof/Decode.lean ====
section
/-! DEFINITION. The command a word spells by the bits of spec/opcode_table.json. The AL8 is a block, not a
processor: every row of the table has an empty list of fields and no fixed bits, so no word spells a command
(log 4). How a command's payload stands in bytes on the two lines is in Machine/Layouts.lean. -/

namespace Sys2Proof

/-- The command a table word of `nbits` bits spells: none, since no row of the table gives bits. -/
def decodeTableWord (_nbits _w : Nat) : Option Instr := none

end Sys2Proof
end

