-- ==== Sys2Proof/Machine/Checks.lean ====
section
/-! DEFINITION. The two checks (R201) and the byte-order helpers every layout is built from (R202). -/

namespace Sys2Proof.Machine

/-- One shift of the check register: left one place, and the polynomial in when the bit shifted out was 1 (R201). -/
def crcShift {w : Nat} (poly r : BitVec w) : BitVec w :=
  if r.msb then (r <<< 1) ^^^ poly else r <<< 1

/-- `n` shifts of the check register. -/
def crcShifts {w : Nat} (poly : BitVec w) : Nat → BitVec w → BitVec w
  | 0, r => r
  | n + 1, r => crcShifts poly n (crcShift poly r)

/-- One byte into the check register: exclusive-or into the top eight bits, then eight shifts (R201). -/
def crcByte {w : Nat} (poly r : BitVec w) (b : Byte) : BitVec w :=
  crcShifts poly 8 (r ^^^ (b.setWidth w <<< (w - 8)))

/-- The cabinet link's check (R201): polynomial 0x4D from 0x00. -/
def crc8 (bytes : List Byte) : Byte := bytes.foldl (crcByte 0x4D#8) 0x00#8

/-- The race bus's check (R201): polynomial 0x5935 from 0xFFFF. -/
def crc16 (bytes : List Byte) : Crc16 := bytes.foldl (crcByte 0x5935#16) 0xFFFF#16

/-- A byte from a natural number, by its low 8 bits. -/
def byte (n : Nat) : Byte := BitVec.ofNat 8 n

/-- `n` bytes of an unsigned value, most significant byte first (R202). -/
def beBytes : Nat → Nat → List Byte
  | 0, _ => []
  | n + 1, v => byte (v / 256 ^ n) :: beBytes n v

/-- The unsigned value of bytes, most significant byte first (R202). -/
def beNat (bytes : List Byte) : Nat := bytes.foldl (fun a b => a * 256 + b.toNat) 0

/-- `n` bytes of a signed value in two's complement, most significant byte first (R202). -/
def beSigned (n : Nat) (v : Int) : List Byte := beBytes n (v % (256 ^ n : Nat)).toNat

/-- The signed value of bytes in two's complement, most significant byte first (R202). -/
def beInt (bytes : List Byte) : Int :=
  let u := beNat bytes
  if 2 * u < 256 ^ bytes.length then (u : Int) else (u : Int) - (256 ^ bytes.length : Nat)

end Sys2Proof.Machine
end

