-- ==== Sys2Proof/Config.lean ====
section
/-! DEFINITION. What the manual fixes once (defaults and limits), what each part is given when it is made (its
serial), and the values the manual leaves unstated: free values without a body, so that nothing can be proved
of them. -/

namespace Sys2Proof

namespace Config

/-! ## Given to the part -/

/-- The serial in this part's fuses (R163). Every part has its own, so it has no body here. -/
opaque fuseSerial : Serial

/-- DESIGN CHOICE (log 1): the straps in force in `State.reset`. They are inputs sampled while RESET is low
(R198) and the manual gives them no value. -/
def resetStraps : Straps := ⟨false, false, false⟩

/-! ## Values the manual does not state (log 2) -/

/-- FREE VALUE (log 2). The elapsed time of an official tf while G is absent: R114 and R118 subtract G. -/
opaque elapsedWithoutGreen : Nat → Nat

/-- FREE VALUE (log 2). The official tf of a results entry taken while G is absent: R117 adds G. -/
opaque tfWithoutGreen : Nat → Nat

/-- FREE VALUE (log 2). The lap time of a lap after the first when the record holds no last lap-line crossing
time (R18), by the crossing time. -/
opaque lapTimeWithoutLine : Nat → Nat

/-- FREE VALUE (log 2). The track id a RACE SETUP carries while the referee holds none (R80). -/
opaque absentTrackId : Nat

/-- FREE VALUE (log 2). The signature a RACE SETUP carries while the referee holds none (R80). -/
opaque absentSignature : Crc16

/-- FREE VALUE (log 2). The lights count of a countdown whose light interval is 0, by N, G and local race time: R96
divides by the interval. The count stays within 0 to N, to which R96 clamps it. -/
opaque lightsWithoutInterval : Nat → Nat → Nat → Nat

/-! ## Limits -/

/-- The saturation value of a 32-bit time count (R60, R114, R160, R202). -/
def timeCountMax : Nat := 4294967295

/-- The most notices the Notice Queue holds (R193). -/
def noticeCapacity : Nat := 32

/-- The most entries the request queue holds (R184). -/
def requestCapacity : Nat := 4

/-- The ticks of silence that break a frame (R181). -/
def stallTicks : Nat := 50

/-- How far ahead of local race time a remote stamp may lie (R37). -/
def futureTolerance : Nat := 1000

/-- How far behind a target may lie and still be met by a hold-off (R128). -/
def holdOffLimit : Nat := 500

/-! ## Defaults -/

/-- The race options before any OPEN or RACE SETUP (R45, R69, R79). -/
def defaultOptions : Options where
  laps := 3
  policy := .hold
  silenceLimit := 2000
  retireLimit := 50000
  extrapolationCap := 1000
  coastCap := 10000
  settleWindow := 1000
  graceWindow := 300000
  minimumField := 2
  entryWindow := 200000
  lightsCount := 5
  lightInterval := 10000
  singleHold := 200000
  holdBudget := 300000

end Config

end Sys2Proof
end

