-- ==== Sys2Proof/Machine/State.lean ====
section
/-! DEFINITION. The state of the AL8 block by block, as the manual's block table names its owners, the frames,
notices and replies it holds, and the state after reset. Everything is plain data. -/

namespace Sys2Proof.Machine

/-! ## Track Profile (R1) -/

/-- A loaded track. -/
structure Track where
  id : Nat
  L : Nat
  S : Nat
  starts : List Nat
  signature : Crc16
  deriving DecidableEq, Repr

/-! ## Car Table (R25) -/

/-- A crossed boundary: its index, its crossing time and the unconfirmed mark (R15). -/
structure Crossing where
  index : Nat
  time : Nat
  unconfirmed : Bool
  deriving DecidableEq, Repr

/-- A car record (R25). -/
structure CarRecord where
  station : Nat
  state : CarState
  report : Option Report
  slot : Option Nat
  p : Option Int
  pmax : Option Int
  crossed : Option Crossing
  laps : Nat
  lineTime : Option Nat
  lastLap : Option Nat
  bestLap : Option Nat
  silentSince : Option Nat
  provisionalTf : Option Nat
  officialTf : Option Nat
  position : Option Nat
  marks : Marks
  retireReason : Option RetireReason
  deriving DecidableEq, Repr

/-- A new record (R26): IDLE, no lap, every optional field absent. -/
def CarRecord.new (station : Nat) : CarRecord where
  station := station
  state := .idle
  report := none
  slot := none
  p := none
  pmax := none
  crossed := none
  laps := 0
  lineTime := none
  lastLap := none
  bestLap := none
  silentSince := none
  provisionalTf := none
  officialTf := none
  position := none
  marks := Marks.clear
  retireReason := none

/-! ## Order and Timing Unit (R49) -/

/-- A first-crossing ring entry (R57). -/
structure RingEntry where
  index : Nat
  time : Nat
  deriving DecidableEq, Repr

/-- The race fastest lap (R62). -/
structure FastestLap where
  station : Nat
  time : Nat
  lap : Nat
  deriving DecidableEq, Repr

/-- The Order and Timing Unit. -/
structure OrderUnit where
  order : List Nat
  ring : List (Option RingEntry)
  leading : Option Nat
  fastest : Option FastestLap
  reportedOwn : Option Nat
  reportedLeader : Option Nat
  deriving DecidableEq, Repr

/-- The cleared values of the Order and Timing Unit (R49). -/
def OrderUnit.cleared : OrderUnit := ⟨[], List.replicate 64 none, none, none, none, none⟩

/-- A car's gap to the leader (R60). -/
inductive Gap where
  | absent
  | time (t : Nat)
  | laps (n : Nat)
  deriving DecidableEq, Repr

/-! ## Race Control (R69) -/

/-- A row of the hold table (R88). The holding flag is set exactly while a hold start is present. -/
structure HoldRow where
  station : Nat
  holdStart : Option Nat
  cumulative : Nat
  deriving DecidableEq, Repr

/-- Race Control. The hold table, the suspended remainder and the two deadlines exist only while ACTING. -/
structure RaceControl where
  phase : Phase
  raceNumber : Option Nat
  options : Options
  trackRef : Option TrackRef
  entries : List Entry
  lastRefusal : Option LastRefusal
  green : Option Nat
  lights : Nat
  holdSet : StationSet
  enterPending : Bool
  holdAsked : Bool
  holdTable : List HoldRow
  remainder : Option Nat
  entryDeadline : Option Nat
  graceDeadline : Option Nat
  deriving DecidableEq, Repr

/-- Race Control after power-on (R69). -/
def RaceControl.initial : RaceControl where
  phase := .detached
  raceNumber := none
  options := Config.defaultOptions
  trackRef := none
  entries := []
  lastRefusal := none
  green := none
  lights := 0
  holdSet := 0#8
  enterPending := false
  holdAsked := false
  holdTable := []
  remainder := none
  entryDeadline := none
  graceDeadline := none

/-! ## Finish Judge (R103) -/

/-- A pending finish (R106). -/
structure PendingFinish where
  station : Nat
  tf : Nat
  slot : Option Nat
  unconfirmed : Bool
  deriving DecidableEq, Repr

/-- A results list (R114). -/
structure ResultsList where
  raceNumber : Nat
  entries : List ResultEntry
  deriving DecidableEq, Repr

/-- The Finish Judge. -/
structure FinishJudge where
  verdictCount : Nat
  waiting : List PendingFinish
  results : Option ResultsList
  deriving DecidableEq, Repr

/-- The Finish Judge with no race (R103). -/
def FinishJudge.cleared : FinishJudge := ⟨0, [], none⟩

/-! ## Race Clock (R123) -/

/-- The referee role states (R133). -/
inductive Role where
  | ineligible | follower | waiting | acting
  deriving DecidableEq, Repr

/-- The last BEAT taken: its source and the tick count at that moment (R123). -/
structure LastBeat where
  station : Nat
  tick : Nat
  deriving DecidableEq, Repr

/-- The Race Clock. A timer is `none` while stopped, else the ticks left. `ticks` counts the 0.1 ms time base. -/
structure RaceClock where
  ticks : Nat
  time : Nat
  holdOff : Nat
  beatPeriod : Nat
  timeout : Nat
  latency : Nat
  eligible : Bool
  followed : Option Nat
  lastBeat : Option LastBeat
  role : Role
  referee : Option Nat
  candidate : Option Nat
  watchdog : Option Nat
  beatTimer : Option Nat
  conflict : Bool
  deriving DecidableEq, Repr

/-- The Race Clock after power-on (R124, R188 for the four settings). -/
def RaceClock.initial : RaceClock where
  ticks := 0
  time := 0
  holdOff := 0
  beatPeriod := 100
  timeout := 4
  latency := 2
  eligible := true
  followed := none
  lastBeat := none
  role := .follower
  referee := none
  candidate := none
  watchdog := none
  beatTimer := none
  conflict := false

/-! ## Station Directory (R163) -/

/-- The numbering states. -/
inductive Numbering where
  | detached | listening | claiming | numbered | conflict
  deriving DecidableEq, Repr

/-- What an ANNOUNCE completes a directory entry with (R163, R165). -/
abbrev StationInfo := AnnounceFields

/-- A directory entry (R163); `info` is absent until an ANNOUNCE completes the entry. -/
structure DirEntry where
  number : Nat
  info : Option StationInfo
  live : Bool
  lastHeard : Nat
  unit : Nat
  deriving DecidableEq, Repr

/-- A slot of the grid-slot map (R176). -/
structure SlotEntry where
  slot : Nat
  station : Nat
  deriving DecidableEq, Repr

/-- The Station Directory. -/
structure Directory where
  serial : Serial
  pin : Option Nat
  label : List Byte
  numbering : Numbering
  number : Option Nat
  listenDeadline : Option Nat
  wanted : Option Nat
  taken : StationSet
  claimRetry : Option Nat
  entries : List DirEntry
  slots : List SlotEntry
  deriving DecidableEq, Repr

/-- The Station Directory after power-on, with the fuses' serial (R163). -/
def Directory.initial (serial : Serial) : Directory where
  serial := serial
  pin := none
  label := []
  numbering := .detached
  number := none
  listenDeadline := none
  wanted := none
  taken := 0#8
  claimRetry := none
  entries := []
  slots := []

/-! ## Race Bus Controller (R143, R155) -/

/-- A frame of the Outbound Table (R155, R204). A BEAT has no contents until its transmission begins (R137).
A race number is sent as 0 when it is absent (R202). -/
inductive Frame where
  | beat (content : Option BeatFields)
  | verdict (v : VerdictFields)
  | holdState (raceNumber : Nat) (holding : Bool)
  | raceSetup (r : RaceSetupFields)
  | entries (e : EntriesFields)
  | retire (raceNumber station : Nat) (reason : RetireReason)
  | results (raceNumber : Nat) (list : List ResultEntry)
  | abort (raceNumber : Nat) (reason : AbortReason)
  | enter (raceNumber : Nat) (signature : Crc16)
  | leave (raceNumber : Nat)
  | report (raceNumber : Nat) (r : Report)
  | announce (a : AnnounceFields)
  | claim (serial : Serial) (wanted : Nat)
  deriving DecidableEq, Repr

/-- The kinds of race-bus frame, in class order 0 to 7 (R147). -/
inductive FrameKind where
  | beat | verdict | holdState | control | entry | report | announce | claim
  deriving DecidableEq, Repr

/-- A frame held with its attempt count (R155). -/
structure Held where
  frame : Frame
  attempts : Nat
  deriving DecidableEq, Repr

/-- A single slot and its follow-up place; the REPORT slot's is the staging buffer (R155, R190). -/
structure Slot where
  held : Option Held
  followUp : Option Frame
  deriving DecidableEq, Repr

/-- An empty slot. -/
def Slot.empty : Slot := ⟨none, none⟩

/-- The Outbound Table (R155). -/
structure Outbound where
  beat : Slot
  verdict : List Held
  holdState : Slot
  control : List Held
  entry : Slot
  report : Slot
  announce : Slot
  claim : Slot
  deriving DecidableEq, Repr

/-- The empty Outbound Table (R155). -/
def Outbound.empty : Outbound :=
  ⟨Slot.empty, [], Slot.empty, [], Slot.empty, Slot.empty, Slot.empty, Slot.empty⟩

/-- The line states (R143). -/
inductive LineState where
  | off | busy | idle | arbitrating | sending | receiving | stuck
  deriving DecidableEq, Repr

/-- The purge that met a frame in flight (R161). -/
inductive PurgeCause where
  | raceOrNumber
  | detach
  deriving DecidableEq, Repr

/-- The own frame in flight (R147): the kind and the source station its arbitration character was formed with at the
start of the attempt, its contents, and the purge that met it, if any (R161). -/
structure Flight where
  kind : FrameKind
  source : Nat
  frame : Frame
  purged : Option PurgeCause
  deriving DecidableEq, Repr

/-- Whether the controller is leaving the line at the end of the frame in flight, and for what: OFF, BUSY where an
ATTACH has been taken since (R143, R162, R200), or the return of a performed RESTART (R162, R199). -/
inductive Leaving where
  | no | toOff | toBusy | toRestart
  deriving DecidableEq, Repr

/-- The Race Bus Controller. `acknowledged` and `objected` are what this station drove into the acknowledge and
objection slots of the last race-bus frame it received (log 3). -/
structure BusController where
  line : LineState
  outbound : Outbound
  inFlight : Option Flight
  leaving : Leaving
  receiveErrors : Nat
  droppedReports : Nat
  superseded : Nat
  stuckTicks : Nat
  acknowledged : Bool
  objected : Bool
  deriving DecidableEq, Repr

/-- The Race Bus Controller after power-on (R143, R155, R162, R191). -/
def BusController.initial : BusController where
  line := .off
  outbound := Outbound.empty
  inFlight := none
  leaving := .no
  receiveErrors := 0
  droppedReports := 0
  superseded := 0
  stuckTicks := 0
  acknowledged := false
  objected := false

/-! ## Notice Queue (R193) -/

/-- The events of STATION (R177). -/
inductive StationEvent where
  | joined | quiet | live | removed | numbered | released
  deriving DecidableEq, Repr

/-- The causes of STATION NUMBERED and STATION RELEASED (R170, R171). -/
inductive StationCause where
  | pinned | claimed | alone
  | duplicate | conflict | pin | detach
  deriving DecidableEq, Repr

/-- The causes of REFEREE (R140). -/
inductive RefereeCause where
  | succession | yield | eligibility | numberLost | detach
  deriving DecidableEq, Repr

/-- The outcomes of DUPLICATE (R177). -/
inductive DuplicateOutcome where
  | kept | released | conflict
  deriving DecidableEq, Repr

/-- The causes of TX FAILED (R160). -/
inductive TxCause where
  | unheard | displaced
  deriving DecidableEq, Repr

/-- The kinds of notice with the body each carries (R193 and the rule that raises it). -/
inductive NoticeBody where
  | phase (new previous : Phase) (raceNumber : Option Nat) (reason : Option LobbyReason)
  | lights (count : Nat) (green : Option Nat)
  | go (green : Option Nat)
  | order (own leader : Option Nat)
  | lap (lap time : Nat) (best : Option Nat)
  | fastestLap (station : Nat) (slot : Option Nat) (lap time : Nat)
  | carSilent (station : Nat) (slot : Option Nat) (p : Option Int)
  | carBack (station : Nat) (slot : Option Nat) (time : Nat)
  | carRetired (station : Nat) (slot : Option Nat) (reason : RetireReason) (p : Option Int)
  | benched (station : Nat) (slot : Option Nat)
  | holdRefused (green : Option Nat) (lights : Nat)
  | entryRefused (reason : RefusalReason)
  | verdict (station : Nat) (slot : Option Nat) (position elapsed : Nat) (marks : Marks)
  | results (raceNumber entries : Nat) (ownPosition : Option Nat) (ownStatus : Option ResultStatus)
  | referee (role : Role) (referee : Option Nat) (cause : RefereeCause)
  | clockRebase (source before after : Nat)
  | clockConflict (source target time difference : Nat)
  | station (event : StationEvent) (number : Nat) (cause : Option StationCause) (numbering : Numbering)
  | duplicate (number : Nat) (serial : Serial) (pinned : Bool) (outcome : DuplicateOutcome)
  | busStuck (kind : Option FrameKind) (subkind : Option Nat)
  | busClear (ticks : Nat)
  | txFailed (kind : FrameKind) (subkind : Option Nat) (raceNumber attempts : Nat) (cause : TxCause)
  | overflow (count : Nat)
  deriving DecidableEq, Repr

/-- A notice: when it was raised, and its kind with its body (R193). -/
structure Notice where
  time : Nat
  body : NoticeBody
  deriving DecidableEq, Repr

/-- The Notice Queue. -/
structure NoticeQueue where
  list : List Notice
  dropped : Nat
  deriving DecidableEq, Repr

/-- The empty Notice Queue (R193). -/
def NoticeQueue.empty : NoticeQueue := ⟨[], 0⟩

/-! ## Cabinet Link Port (R178 to R187) -/

/-- The result codes (R186). -/
inductive ResultCode where
  | done | adjusted | refusedState | refusedRole | badValue | trackMismatch | tooLate | fieldShort | noSuchCar
  deriving DecidableEq, Repr

/-- The link error codes (R186). -/
inductive LinkErrorCode where
  | check | length | timeout | overrun | unknownKind
  deriving DecidableEq, Repr

/-- The six SETUP fields as stored (R188). -/
structure Settings where
  pin : Option Nat
  eligible : Bool
  beatPeriod : Nat
  timeout : Nat
  latency : Nat
  label : List Byte
  deriving DecidableEq, Repr

/-- The body of a DONE reply to ASK CAR (R47). -/
structure CarReply where
  time : Nat
  record : CarRecord
  extrapolated : Option Int
  position : Option Nat
  gap : Gap
  deriving DecidableEq, Repr

/-- A car of the reply to ASK ORDER (R65). -/
structure OrderLine where
  position : Nat
  station : Nat
  slot : Option Nat
  state : CarState
  laps : Nat
  crossed : Option Nat
  crossedUnconfirmed : Bool
  gap : Gap
  bestLap : Option Nat
  official : Option Nat
  marks : Marks
  finishTime : Option Nat
  deriving DecidableEq, Repr

/-- The reply to ASK ORDER (R65). -/
structure OrderReply where
  time : Nat
  phase : Phase
  raceNumber : Option Nat
  incomplete : Bool
  leading : Option Nat
  fastest : Option FastestLap
  cars : List OrderLine
  deriving DecidableEq, Repr

/-- A time in printed form: the digit groups of R120 and the saturated flag. -/
structure TimeForm where
  minutes : Nat
  seconds : Nat
  milliseconds : Nat
  saturated : Bool
  deriving DecidableEq, Repr

/-- A results entry with its tf elapsed in time form (R119); the form is absent with the tf elapsed. -/
structure ResultLine where
  entry : ResultEntry
  form : Option TimeForm
  deriving DecidableEq, Repr

/-- The reply to ASK RESULTS (R119); `list` is absent when the flag is clear. -/
structure ResultsReply where
  time : Nat
  phase : Phase
  raceNumber : Option Nat
  list : Option (Nat × List ResultLine)
  deriving DecidableEq, Repr

/-- A directory entry as ASK STATUS shows it (R192). -/
structure StatusStation where
  number : Nat
  live : Bool
  info : Option StationInfo
  deriving DecidableEq, Repr

/-- The reply to ASK STATUS (R192). -/
structure StatusReply where
  serial : Serial
  settings : Settings
  straps : Straps
  numbering : Numbering
  number : Option Nat
  entryCount : Nat
  liveCount : Nat
  stations : List StatusStation
  time : Nat
  holdOff : Nat
  followed : Option Nat
  conflict : Bool
  role : Role
  referee : Option Nat
  phase : Phase
  raceNumber : Option Nat
  track : Option (Nat × Nat × Nat × Crc16)
  line : LineState
  receiveErrors : Nat
  droppedReports : Nat
  superseded : Nat
  noticesWaiting : Nat
  noticesDropped : Nat
  deriving DecidableEq, Repr

/-- The body that follows a reply's result code (R186). -/
inductive ReplyBody where
  | empty
  | setup (s : Settings)
  | track (signature : Crc16)
  | car (position : Option Nat) (laps : Nat) (deposited : Bool)
  | openRace (raceNumber : Nat)
  | askCar (r : CarReply)
  | askOrder (r : OrderReply)
  | askResults (r : ResultsReply)
  | askStatus (r : StatusReply)
  | timeForm (minus : Bool) (form : TimeForm)
  | fetch (removed : List Notice) (waiting : Nat)
  deriving DecidableEq, Repr

/-- A reply on TXD (R186): an answer to a request, under the request's kind plus 0x80, or a LINK ERROR. -/
inductive Reply where
  | answer (kind : Byte) (result : ResultCode) (body : ReplyBody)
  | linkError (code : LinkErrorCode) (kind : Option Byte)
  deriving DecidableEq, Repr

/-- An entry of the request queue (R184). `request` is absent for a link error; `reply` is absent until it is
built; `sent` is set once the entry's own reply has been sent and OVERRUN replies owed with it remain; `owed`
holds the kind byte received, if any, of each overrun owed (its length is the owed-overrun count, R185); the replies an
entry sends, one LINK ERROR OVERRUN for each unit owed among them, are `QueueEntry.replies`. -/
structure QueueEntry where
  request : Option Request
  reply : Option Reply
  sent : Bool
  owed : List (Option Byte)
  deriving DecidableEq, Repr

/-- The receiver states (R179). `got` holds the characters of the frame taken since the sync byte. -/
inductive Receiver where
  | hunt
  | length
  | kind (got : List Byte) (left : Nat)
  | payload (got : List Byte) (left : Nat)
  | check (got : List Byte)
  | skip (left : Nat)
  deriving DecidableEq, Repr

/-- The Cabinet Link Port; `stall` is the stall timer, the ticks since the last character (R181). -/
structure CabinetLink where
  receiver : Receiver
  stall : Nat
  queue : List QueueEntry
  deriving DecidableEq, Repr

/-- The Cabinet Link Port after power-on (R179, R184). -/
def CabinetLink.initial : CabinetLink := ⟨.hunt, 0, []⟩

/-! ## The whole part -/

/-- The state of the AL8, one field for each block of the block table (00_scope.md), the sampled straps (R198),
and the model's own queue of commands waiting, front first. -/
structure State where
  track : Option Track
  cars : List CarRecord
  order : OrderUnit
  race : RaceControl
  finish : FinishJudge
  clock : RaceClock
  dir : Directory
  bus : BusController
  notices : NoticeQueue
  link : CabinetLink
  straps : Straps
  pending : List Instr
  deriving DecidableEq, Repr

/-- No step of this part stops with a fault: the manual names none, and every command has an effect in every
state (the type has no constructor, so safe). -/
inductive Fault
  deriving DecidableEq, Repr

/-- Why a step has no meaning. -/
inductive Refusal where
  /-- Raised only by `exec` for a row of the opcode table whose meaning is not written; safe, since nothing can
  be claimed of a refused step. -/
  | notModelled (mnemonic : String)
  deriving DecidableEq, Repr

/-- Every block at its power-on values (R198), with the serial in the fuses, the straps as sampled, and the
model's command queue. -/
def State.powerOn (serial : Serial) (straps : Straps) (pending : List Instr) : State where
  track := none
  cars := []
  order := OrderUnit.cleared
  race := RaceControl.initial
  finish := FinishJudge.cleared
  clock := RaceClock.initial
  dir := Directory.initial serial
  bus := BusController.initial
  notices := NoticeQueue.empty
  link := CabinetLink.initial
  straps := straps
  pending := pending

/-- The part right after the RESET pin goes high (R198), with no command waiting. -/
def State.reset : State := State.powerOn Config.fuseSerial Config.resetStraps []

/-! ## One update per block -/

/-- Replace the Track Profile's track. -/
def State.withTrack (x : Option Track) (s : State) : State := { s with track := x }
/-- Replace the Car Table. -/
def State.withCars (x : List CarRecord) (s : State) : State := { s with cars := x }
/-- Replace the Order and Timing Unit. -/
def State.withOrder (x : OrderUnit) (s : State) : State := { s with order := x }
/-- Replace Race Control. -/
def State.withRace (x : RaceControl) (s : State) : State := { s with race := x }
/-- Replace the Finish Judge. -/
def State.withFinish (x : FinishJudge) (s : State) : State := { s with finish := x }
/-- Replace the Race Clock. -/
def State.withClock (x : RaceClock) (s : State) : State := { s with clock := x }
/-- Replace the Station Directory. -/
def State.withDir (x : Directory) (s : State) : State := { s with dir := x }
/-- Replace the Race Bus Controller. -/
def State.withBus (x : BusController) (s : State) : State := { s with bus := x }
/-- Replace the Notice Queue. -/
def State.withNotices (x : NoticeQueue) (s : State) : State := { s with notices := x }
/-- Replace the Cabinet Link Port. -/
def State.withLink (x : CabinetLink) (s : State) : State := { s with link := x }
/-- Replace the command queue of the model. -/
def State.withPending (x : List Instr) (s : State) : State := { s with pending := x }

end Sys2Proof.Machine
end

