-- ==== Sys2Proof/Machine/Ops.lean ====
section
/-! DEFINITION. The named operations every block uses: sorting by keys, raising a notice, reading and writing car
records, directory look-ups, and the working beat period. -/

namespace Sys2Proof.Machine

/-! ## Plain helpers -/

/-- A 32-bit time count, saturated (R60, R114, R202). -/
def saturate (n : Nat) : Nat := min n Config.timeCountMax

/-- The least whole number not below `a / b`, for `b` above 0 (R12, R96). -/
def ceilDiv (a b : Int) : Int := -((-a) / b)

/-- Lexicographic comparison of sort keys of equal length. -/
def keyLt : List Int → List Int → Bool
  | a :: as, b :: bs => if a = b then keyLt as bs else decide (a < b)
  | [], _ :: _ => true
  | _, [] => false

/-- Insert by key into a list sorted by key, before the first element whose key is not smaller. -/
def insertByKey {α : Type} (key : α → List Int) (x : α) : List α → List α
  | [] => [x]
  | y :: ys => if keyLt (key y) (key x) then y :: insertByKey key x ys else x :: y :: ys

/-- Sort by key, smallest first. -/
def sortByKey {α : Type} (key : α → List Int) : List α → List α
  | [] => []
  | x :: xs => insertByKey key x (sortByKey key xs)

/-- The place of a station in a list, counted from 1. -/
def placeOf (st : Nat) : List Nat → Option Nat
  | [] => none
  | x :: xs => if x = st then some 1 else (placeOf st xs).map (· + 1)

/-- Two key places for an optional grid slot: an absent slot after any present one (R51 to R54, R103, R114). -/
def slotKey : Option Nat → List Int
  | some k => [0, k]
  | none => [1, 0]

/-- Two key places for a progress sorted greatest first, an absent one after every present one (R53, R54, R114). -/
def progressKey : Option Int → List Int
  | some p => [0, -p]
  | none => [1, 0]

/-! ## Notice Queue (R194) -/

/-- Whether a notice is an ORDER notice. -/
def Notice.isOrder (n : Notice) : Bool :=
  match n.body with
  | .order _ _ => true
  | _ => false

/-- Take a notice (R194): an ORDER rewrites a waiting ORDER in place; any other notice is appended, or dropped and
counted when 32 are waiting. -/
def NoticeQueue.accept (n : Notice) (q : NoticeQueue) : NoticeQueue :=
  if n.isOrder && q.list.any Notice.isOrder then
    { q with list := q.list.map fun m => if m.isOrder then n else m }
  else if q.list.length < Config.noticeCapacity then
    { q with list := q.list ++ [n] }
  else
    { q with dropped := min (q.dropped + 1) 255 }

/-- Raise a notice with the present local race time. -/
def State.raise (b : NoticeBody) (s : State) : State :=
  s.withNotices (s.notices.accept ⟨s.clock.time, b⟩)

/-- Raise the notices of a list in order. -/
def State.raiseAll (bs : List NoticeBody) (s : State) : State :=
  bs.foldl (fun s b => s.raise b) s

/-! ## Roles and numbers -/

/-- Whether this station is the acting referee. -/
def State.acting (s : State) : Bool := decide (s.clock.role = .acting)

/-- This station's number while it is NUMBERED (R163). -/
def State.ownStation (s : State) : Option Nat :=
  if s.dir.numbering = .numbered then s.dir.number else none

/-- The race number as a frame carries it, 0 when absent (R202). -/
def State.raceNumber0 (s : State) : Nat := s.race.raceNumber.getD 0

/-- The working beat period (R130). -/
def RaceClock.working (c : RaceClock) : Nat :=
  if c.role = .acting then c.beatPeriod else c.followed.getD c.beatPeriod

/-- The watchdog's full run in ticks (R131). -/
def RaceClock.fullRun (c : RaceClock) : Nat := min (c.timeout * c.working) 65536

/-- Start or restart the beat watchdog with its full run (R131). -/
def State.restartWatchdog (s : State) : State :=
  s.withClock { s.clock with watchdog := some s.clock.fullRun }

/-- Elapsed race time of a time, saturated; a free value while G is absent (log 2). R114 and R118 give G subtracted from the
official tf and no result for a tf that lies before the G held, which a follower in RACING that keeps its own G may meet
(R75): the elapsed time is then 0 (DESIGN CHOICE, log 55). -/
def State.elapsedOf (s : State) (t : Nat) : Nat :=
  match s.race.green with
  | some g => saturate (t - g)
  | none => Config.elapsedWithoutGreen t

/-! ## Car records (R25, R26) -/

/-- The record of a station. -/
def State.car? (s : State) (st : Nat) : Option CarRecord := s.cars.find? (·.station == st)

/-- The own record, present while NUMBERED. -/
def State.ownCar? (s : State) : Option CarRecord :=
  match s.ownStation with
  | some st => s.car? st
  | none => none

/-- Change the record of a station, if it has one. -/
def State.updateCar (st : Nat) (f : CarRecord → CarRecord) (s : State) : State :=
  s.withCars (s.cars.map fun c => if c.station = st then f c else c)

/-- Put a record in its place by station number. -/
def insertCar (c : CarRecord) : List CarRecord → List CarRecord
  | [] => [c]
  | x :: xs => if x.station < c.station then x :: insertCar c xs else c :: x :: xs

/-- A record returned to the state of a new record, its last report kept (R33). -/
def CarRecord.renewed (c : CarRecord) : CarRecord :=
  { CarRecord.new c.station with report := c.report }

/-- The fields a TRACK taken in LOBBY clears (R3), the last report's lap distance brought below the new L. -/
def CarRecord.onNewTrack (L : Nat) (c : CarRecord) : CarRecord :=
  { c with
    p := none, pmax := none, crossed := none, lineTime := none, lastLap := none, bestLap := none, laps := 0,
    report := c.report.map fun r => { r with d := if L ≤ r.d then L - 1 else r.d } }

/-- A record with its finish fields cleared (R103). -/
def CarRecord.withoutFinish (c : CarRecord) : CarRecord :=
  { c with provisionalTf := none, officialTf := none, position := none, marks := Marks.clear }

/-- A record with its provisional finish withdrawn (R105). -/
def CarRecord.withdrawFinish (c : CarRecord) : CarRecord :=
  { c with provisionalTf := none, marks := { c.marks with unconfirmed := false } }

/-- A record put back before green (R77). -/
def CarRecord.undoGreen (c : CarRecord) : CarRecord :=
  { c.withoutFinish with
    state := match c.state with
      | .racing | .silent | .finished | .retired => .gridded
      | other => other
    p := none, pmax := none, crossed := none, lineTime := none, lastLap := none, bestLap := none,
    silentSince := none, retireReason := none, laps := 0 }

/-! ## Directory look-ups (R165) -/

/-- The directory entry of a number. -/
def Directory.entry? (d : Directory) (n : Nat) : Option DirEntry := d.entries.find? (·.number == n)

/-- Put an entry in its place by number, replacing an entry of the same number. -/
def insertEntry (e : DirEntry) : List DirEntry → List DirEntry
  | [] => [e]
  | x :: xs =>
    if x.number < e.number then x :: insertEntry e xs
    else if x.number = e.number then e :: xs
    else e :: x :: xs

/-- What this station announces of itself (R170). -/
def State.ownInfo (s : State) : StationInfo :=
  ⟨s.dir.serial, s.dir.pin.isSome, s.clock.eligible, s.dir.label⟩

end Sys2Proof.Machine
end

