-- ==== Sys2Proof/Machine/Outbound.lean ====
section
/-! DEFINITION. The Outbound Table (R155 to R161, R190, R191): deposits, the end of a flight, purges, and which
frame contends next. -/

namespace Sys2Proof.Machine

/-! ## Kinds, subkinds, limits -/

/-- The kind of a frame (R147). -/
def Frame.kind : Frame → FrameKind
  | .beat _ => .beat
  | .verdict _ => .verdict
  | .holdState _ _ => .holdState
  | .raceSetup _ | .entries _ | .retire _ _ _ | .results _ _ | .abort _ _ => .control
  | .enter _ _ | .leave _ => .entry
  | .report _ _ => .report
  | .announce _ => .announce
  | .claim _ _ => .claim

/-- The subkind code of a CONTROL or ENTRY frame (R204). -/
def Frame.subkind : Frame → Option Nat
  | .raceSetup _ => some 1
  | .entries _ => some 2
  | .retire _ _ _ => some 3
  | .results _ _ => some 4
  | .abort _ _ => some 5
  | .enter _ _ => some 1
  | .leave _ => some 2
  | _ => none

/-- The race number a frame carries, 0 when it carries none or it is absent. -/
def Frame.raceNumber : Frame → Nat
  | .beat (some b) => b.raceNumber.getD 0
  | .verdict v => v.raceNumber
  | .holdState n _ => n
  | .raceSetup r => r.raceNumber
  | .entries e => e.raceNumber
  | .retire n _ _ => n
  | .results n _ => n
  | .abort n _ => n
  | .enter n _ => n
  | .leave n => n
  | .report n _ => n
  | .beat none | .announce _ | .claim _ _ => 0

/-- Whether a newer frame of this kind removes an unsent older one from the CONTROL FIFO (R157). -/
def Frame.supersedes : Frame → Bool
  | .raceSetup _ | .entries _ | .results _ _ => true
  | _ => false

/-- Whether a frame is a CONTROL ABORT, which a clearing spares (R161). -/
def Frame.isAbort : Frame → Bool
  | .abort _ _ => true
  | _ => false

/-- The attempt limit of a kind (R158). -/
def FrameKind.attemptLimit : FrameKind → Nat
  | .beat => 1
  | .report => 2
  | .announce | .claim => 3
  | .verdict | .holdState | .control | .entry => 8

/-- Whether a given-up frame of a kind raises TX FAILED (R158, R160). -/
def FrameKind.raisesTxFailed : FrameKind → Bool
  | .verdict | .holdState | .control | .entry => true
  | .beat | .report | .announce | .claim => false

/-- The class of a kind, 0 to 7 (R147). -/
def FrameKind.class : FrameKind → Nat
  | .beat => 0
  | .verdict => 1
  | .holdState => 2
  | .control => 3
  | .entry => 4
  | .report => 5
  | .announce => 6
  | .claim => 7

/-! ## Parts of the table -/

/-- The frames a kind holds, the one that contends first: a slot's frame, or a FIFO oldest first. -/
def Outbound.frames (o : Outbound) : FrameKind → List Held
  | .beat => o.beat.held.toList
  | .verdict => o.verdict
  | .holdState => o.holdState.held.toList
  | .control => o.control
  | .entry => o.entry.held.toList
  | .report => o.report.held.toList
  | .announce => o.announce.held.toList
  | .claim => o.claim.held.toList

/-- Change the part of the table that a kind has: its slot by `f`, its FIFO by `g`. -/
def Outbound.update (k : FrameKind) (f : Slot → Slot) (g : List Held → List Held) (o : Outbound) : Outbound :=
  match k with
  | .beat => { o with beat := f o.beat }
  | .verdict => { o with verdict := g o.verdict }
  | .holdState => { o with holdState := f o.holdState }
  | .control => { o with control := g o.control }
  | .entry => { o with entry := f o.entry }
  | .report => { o with report := f o.report }
  | .announce => { o with announce := f o.announce }
  | .claim => { o with claim := f o.claim }

/-- The frame waiting in the follow-up place of a kind's slot. -/
def Outbound.followUp (o : Outbound) : FrameKind → Option Frame
  | .beat => o.beat.followUp
  | .holdState => o.holdState.followUp
  | .entry => o.entry.followUp
  | .report => o.report.followUp
  | .announce => o.announce.followUp
  | .claim => o.claim.followUp
  | .verdict | .control => none

/-- Replace the Outbound Table. -/
def State.withOutbound (o : Outbound) (s : State) : State := s.withBus { s.bus with outbound := o }

/-- Whether the frame a kind holds first is in flight. A purge for a DETACH took the frame out of the table. -/
def State.flying (s : State) (k : FrameKind) : Bool :=
  match s.bus.inFlight with
  | some fl => decide (fl.kind = k) && decide (fl.purged ≠ some .detach)
  | none => false

/-- Whether a frame of this station's own is on the line. -/
def BusController.sends (b : BusController) : Bool :=
  (decide (b.line = .arbitrating) || decide (b.line = .sending)) && b.inFlight.isSome

/-! ## Deposits (R156, R157, R190) -/

/-- Deposit for a single slot (R156): fill it, replace an unsent frame, or wait in the follow-up place. -/
def Slot.place (flying : Bool) (f : Frame) (sl : Slot) : Slot :=
  if flying && sl.held.isSome then { sl with followUp := some f } else { sl with held := some ⟨f, 0⟩ }

/-- TX FAILED for a frame given up (R160). -/
def State.raiseTxFailed (f : Frame) (attempts : Nat) (cause : TxCause) (s : State) : State :=
  s.raise (.txFailed f.kind f.subkind f.raceNumber attempts cause)

/-- The frames of a FIFO that a deposit may touch, those not in flight, after the head in flight (R157). -/
def fifoParts (flying : Bool) (q : List Held) : List Held × List Held :=
  if flying then (q.take 1, q.drop 1) else ([], q)

/-- Deposit for a FIFO of a capacity (R157): an unsent frame of the same subkind gives way to one that supersedes
it; when the FIFO is still full the oldest unsent frame is displaced with TX FAILED. -/
def State.depositFifo (capacity : Nat) (f : Frame) (q : List Held) (s : State) : State :=
  let (head, rest) := fifoParts (s.flying f.kind) q
  let rest := if f.supersedes then rest.filter fun h => h.frame.subkind != f.subkind else rest
  if head.length + rest.length < capacity then
    s.withOutbound (s.bus.outbound.update f.kind id fun _ => head ++ rest ++ [⟨f, 0⟩])
  else
    match rest with
    | [] => s
    | old :: rest =>
      (s.raiseTxFailed old.frame old.attempts .displaced).withOutbound
        (s.bus.outbound.update f.kind id fun _ => head ++ rest ++ [⟨f, 0⟩])

/-- Count reports superseded; the count stays at 65,535 (R191). -/
def State.countSuperseded (n : Nat) (s : State) : State :=
  s.withBus { s.bus with superseded := min (s.bus.superseded + n) 65535 }

/-- Deposit a frame in its part of the Outbound Table (R156, R157; R190 for the superseded count). -/
def State.deposit (f : Frame) (s : State) : State :=
  match f.kind with
  | .verdict => s.depositFifo 8 f s.bus.outbound.verdict
  | .control => s.depositFifo 4 f s.bus.outbound.control
  | .report =>
    let sl := s.bus.outbound.report
    let replaced := if s.flying .report && sl.held.isSome then sl.followUp.isSome else sl.held.isSome
    let s := s.withOutbound (s.bus.outbound.update .report (Slot.place (s.flying .report) f) id)
    if replaced then s.countSuperseded 1 else s
  | k => s.withOutbound (s.bus.outbound.update k (Slot.place (s.flying k) f) id)

/-- Deposit an ANNOUNCE of this station (R170). -/
def State.announce (s : State) : State := s.deposit (.announce s.ownInfo)

/-- Take an unsent frame out of a kind's slot (R138 for the BEAT, R167 for the CLAIM). -/
def State.withdrawUnsent (k : FrameKind) (s : State) : State :=
  if s.flying k then s.withOutbound (s.bus.outbound.update k (fun sl => { sl with followUp := none }) id)
  else s.withOutbound (s.bus.outbound.update k (fun _ => Slot.empty) id)

/-! ## The end of a flight (R156, R158, R191) -/

/-- How a frame stops being in flight: heard, failed after winning arbitration (unheard, mismatch, stuck line),
or never having won (R149, R145). -/
inductive FlightEnd where
  | heard
  | failed
  | lost
  deriving DecidableEq, Repr

/-- A slot after its frame's flight (R156, R158): a frame in the follow-up place takes the slot whatever the end. -/
def Slot.afterFlight (limit : Nat) (e : FlightEnd) (sl : Slot) : Slot :=
  match sl.followUp, sl.held, e with
  | some f, _, _ => ⟨some ⟨f, 0⟩, none⟩
  | none, none, _ => sl
  | none, some _, .heard => Slot.empty
  | none, some _, .lost => sl
  | none, some h, .failed => if h.attempts + 1 < limit then ⟨some ⟨h.frame, h.attempts + 1⟩, none⟩ else Slot.empty

/-- A FIFO after its head's flight (R157, R158). -/
def fifoAfterFlight (limit : Nat) (e : FlightEnd) : List Held → List Held
  | [] => []
  | h :: rest =>
    match e with
    | .heard => rest
    | .lost => h :: rest
    | .failed => if h.attempts + 1 < limit then ⟨h.frame, h.attempts + 1⟩ :: rest else rest

/-- A slot after the flight of a purged frame (R161): the frame leaves it without effect, and a frame deposited
behind it since takes the slot. -/
def Slot.afterPurgedFlight (sl : Slot) : Slot := ⟨sl.followUp.map fun f => ⟨f, 0⟩, none⟩

/-- The attempts a frame in flight has made before this one. -/
def State.flightAttempts (s : State) (k : FrameKind) : Nat :=
  match s.bus.outbound.frames k with
  | h :: _ => h.attempts
  | [] => 0

/-- The effect of giving a frame up after its last attempt (R158). -/
def State.giveUp (f : Frame) (attempts : Nat) (s : State) : State :=
  if f.kind.raisesTxFailed then s.raiseTxFailed f attempts .unheard
  else if f.kind = .report then s.withBus { s.bus with droppedReports := min (s.bus.droppedReports + 1) 65535 }
  else s

/-- The counts and notices of the end of a flight that was not purged (R158, R191). -/
def State.flightOutcome (fl : Flight) (e : FlightEnd) (attempts : Nat) (followUp : Bool) (s : State) : State :=
  if followUp then
    if fl.kind = .report ∧ e ≠ .heard then s.countSuperseded 1 else s
  else if e = .failed ∧ fl.kind.attemptLimit ≤ attempts + 1 then s.giveUp fl.frame (attempts + 1)
  else s

/-- The frame in flight stops being in flight (R156 to R158, R161, R191). -/
def State.endFlight (e : FlightEnd) (s : State) : State :=
  match s.bus.inFlight with
  | none => s
  | some fl =>
    let o := s.bus.outbound
    let k := fl.kind
    let landed := s.withBus { s.bus with inFlight := none }
    match fl.purged with
    | some .detach => landed
    | some .raceOrNumber => landed.withOutbound (o.update k Slot.afterPurgedFlight (List.drop 1))
    | none =>
      (landed.withOutbound (o.update k (Slot.afterFlight k.attemptLimit e) (fifoAfterFlight k.attemptLimit e))).flightOutcome
        fl e (s.flightAttempts k) (o.followUp k).isSome

/-! ## Purges (R161) -/

/-- A slot purged: only a frame in flight stays. -/
def Slot.purge (flying : Bool) (sl : Slot) : Slot := if flying then ⟨sl.held, none⟩ else Slot.empty

/-- A FIFO purged of its unsent frames, but for those `keep` spares. -/
def purgeFifo (flying : Bool) (keep : Held → Bool) (q : List Held) : List Held :=
  let (head, rest) := fifoParts flying q
  head ++ rest.filter keep

/-- Whether a clearing of the race purges frames of a kind (R161). -/
def FrameKind.raceBound : FrameKind → Bool
  | .verdict | .holdState | .control | .entry | .report => true
  | .beat | .announce | .claim => false

/-- Mark a frame in flight as met by a purge; a purge for a DETACH is not undone by a later one. -/
def Flight.purge (c : PurgeCause) (fl : Flight) : Flight :=
  { fl with purged := if fl.purged = some .detach then some .detach else some c }

/-- The purge at a clearing of the race (R161): VERDICT, HOLD STATE, CONTROL but ABORT, ENTRY and REPORT. -/
def State.purgeRace (s : State) : State :=
  let o := s.bus.outbound
  s.withBus { s.bus with
    outbound := { o with
      verdict := purgeFifo (s.flying .verdict) (fun _ => false) o.verdict
      holdState := o.holdState.purge (s.flying .holdState)
      control := purgeFifo (s.flying .control) (fun h => h.frame.isAbort) o.control
      entry := o.entry.purge (s.flying .entry)
      report := o.report.purge (s.flying .report) }
    inFlight := s.bus.inFlight.map fun fl =>
      if fl.kind.raceBound && !fl.frame.isAbort then fl.purge .raceOrNumber else fl }

/-- The purge when the numbering state leaves NUMBERED (R161): every unsent frame of every kind. -/
def State.purgeNumber (s : State) : State :=
  let o := s.bus.outbound
  s.withBus { s.bus with
    outbound :=
      { beat := o.beat.purge (s.flying .beat)
        verdict := purgeFifo (s.flying .verdict) (fun _ => false) o.verdict
        holdState := o.holdState.purge (s.flying .holdState)
        control := purgeFifo (s.flying .control) (fun _ => false) o.control
        entry := o.entry.purge (s.flying .entry)
        report := o.report.purge (s.flying .report)
        announce := o.announce.purge (s.flying .announce)
        claim := o.claim.purge (s.flying .claim) }
    inFlight := s.bus.inFlight.map fun fl => fl.purge .raceOrNumber }

/-- The purge of a DETACH or RESTART (R161): every frame. -/
def State.purgeDetach (s : State) : State :=
  s.withBus { s.bus with
    outbound := Outbound.empty
    inFlight := s.bus.inFlight.map fun fl => fl.purge .detach }

/-! ## Contention (R148, R151) -/

/-- The kinds that may contend in a numbering state, lowest class first (R151). -/
def contending : Numbering → List FrameKind
  | .numbered => [.beat, .verdict, .holdState, .control, .entry, .report, .announce]
  | .claiming => [.claim]
  | .conflict => [.announce]
  | .listening | .detached => []

/-- The frame this station contends with: the first of the lowest class that may contend (R148). -/
def State.contender (s : State) : Option Frame :=
  (contending s.dir.numbering).findSome? fun k => (s.bus.outbound.frames k).head?.map Held.frame

/-- The contents of a BEAT whose transmission begins now (R137). -/
def State.beatContents (s : State) : BeatFields :=
  ⟨s.clock.time, s.race.phase, s.race.raceNumber, s.race.green, s.race.holdSet, s.finish.verdictCount⟩

end Sys2Proof.Machine
end

