-- ==== Sys2Proof/Machine/Layouts.lean ====
section
/-! DEFINITION. The byte layouts the manual gives (R202 to R205, R4): the codes, the race-bus frames both ways, the
CAR and OPEN payloads, notices and the time form. The link's other payloads are in Messages. -/

namespace Sys2Proof.Machine

/-! ## Reading a payload -/

/-- The `w` bytes of a payload from an offset on. -/
def bytesAt (off w : Nat) (p : List Byte) : List Byte := (p.drop off).take w

/-- An unsigned field of a payload. -/
def natAt (off w : Nat) (p : List Byte) : Nat := beNat (bytesAt off w p)

/-- A signed field of a payload. -/
def intAt (off w : Nat) (p : List Byte) : Int := beInt (bytesAt off w p)

/-- The value of a field that may not hold the absence value of its kind (R202). -/
def present (absence v : Nat) : Option Nat := if v = absence then none else some v

/-- The absence value of a small number or a code (R202). -/
def smallAbsent : Nat := 255

/-- The absence value of a race time (R202). -/
def timeAbsent : Nat := 281474976710655

/-- A small number, or its absence value (R202). -/
def smallByte (n : Option Nat) : Byte := byte (n.getD smallAbsent)

/-- A race number, or its absence value 0 (R202). -/
def raceByte (n : Option Nat) : Byte := byte (n.getD 0)

/-- A race time, or its absence value (R202). -/
def timeBytes (t : Option Nat) : List Byte := beBytes 6 (t.getD timeAbsent)

/-- A time count, saturated to its 4 bytes (R202). -/
def countBytes (n : Nat) : List Byte := beBytes 4 (saturate n)

/-- A progress, or its absence value (R202). -/
def progressBytes : Option Int → List Byte
  | some p => beSigned 4 p
  | none => beBytes 4 0x80000000

/-! ## Codes (R202), numbered in the order of the table that lists them -/

/-- The phase codes. -/
def phaseCode : Phase → Nat
  | .detached => 0 | .claiming => 1 | .lobby => 2 | .entry => 3 | .grid => 4
  | .countdown => 5 | .racing => 6 | .finishing => 7 | .results => 8

/-- The phase a code names. -/
def phaseOf (n : Nat) : Option Phase :=
  ([.detached, .claiming, .lobby, .entry, .grid, .countdown, .racing, .finishing, .results] : List Phase)[n]?

/-- The policy codes (R79). -/
def policyCode : Policy → Nat
  | .hold => 0 | .coast => 1 | .drop => 2

/-- The policy a code names. -/
def policyOf (n : Nat) : Option Policy := ([.hold, .coast, .drop] : List Policy)[n]?

/-- The codes of an entry's state, in the order R69 lists them. -/
def entryStateCode : EntryState → Nat
  | .entered => 0 | .gridded => 1 | .benched => 2

/-- The entry state a code names. -/
def entryStateOf (n : Nat) : Option EntryState := ([.entered, .gridded, .benched] : List EntryState)[n]?

/-- The codes of a refusal reason (R69). -/
def refusalCode : RefusalReason → Nat
  | .full => 0 | .trackMismatch => 1

/-- The refusal reason a code names. -/
def refusalOf (n : Nat) : Option RefusalReason := ([.full, .trackMismatch] : List RefusalReason)[n]?

/-- The codes of a retire reason (R25). -/
def retireCode : RetireReason → Nat
  | .silence => 0 | .withdrawn => 1

/-- The retire reason a code names. -/
def retireOf (n : Nat) : Option RetireReason := ([.silence, .withdrawn] : List RetireReason)[n]?

/-- The codes of an abort reason (R74). -/
def abortCode : AbortReason → Nat
  | .requested => 0 | .abandoned => 1

/-- The abort reason a code names. -/
def abortOf (n : Nat) : Option AbortReason := ([.requested, .abandoned] : List AbortReason)[n]?

/-- The codes of a result status (R204). -/
def statusCode : ResultStatus → Nat
  | .finished => 0 | .notClassified => 1 | .retired => 2 | .benched => 3

/-- The result status a code names. -/
def statusOf (n : Nat) : Option ResultStatus :=
  ([.finished, .notClassified, .retired, .benched] : List ResultStatus)[n]?

/-- The wish of a HOLD STATE: 0 released, 1 holding (R204). -/
def wishOf : Nat → Option Bool
  | 0 => some false
  | 1 => some true
  | _ => none

/-- The three marks as a byte: bit 0 dead heat, bit 1 late judged, bit 2 unconfirmed (R202). -/
def marksCode (m : Marks) : Nat := m.deadHeat.toNat + 2 * m.lateJudged.toNat + 4 * m.unconfirmed.toNat

/-- The marks of a byte; its other bits are ignored (R202). -/
def marksOf (n : Nat) : Marks := ⟨n.testBit 0, n.testBit 1, n.testBit 2⟩

/-! ## The options, 34 bytes (R204) -/

/-- The 14 options in the order and the widths of R204. -/
def optionBytes (o : Options) : List Byte :=
  beBytes 1 o.laps ++ beBytes 1 (policyCode o.policy) ++ beBytes 2 o.silenceLimit ++ beBytes 4 o.retireLimit ++
    beBytes 2 o.extrapolationCap ++ beBytes 2 o.coastCap ++ beBytes 2 o.settleWindow ++ beBytes 4 o.graceWindow ++
    beBytes 1 o.minimumField ++ beBytes 4 o.entryWindow ++ beBytes 1 o.lightsCount ++ beBytes 2 o.lightInterval ++
    beBytes 4 o.singleHold ++ beBytes 4 o.holdBudget

/-- The options of 34 bytes, when the small numbers are present and the policy code names a policy (R202). R202 lists the
lights count among the small numbers, and neither laps nor the minimum field: 0xFF in one of those two counts as an absence
too, which makes the frame bad, while an option of 2 or 4 bytes holds its value also where all its bytes are 0xFF (DESIGN
CHOICE, log 58). No rule calls an option outside its range of R79 bad, nor clamps it on receipt, a light interval of 0 among
them: it is taken as carried (DESIGN CHOICE, log 62). -/
def optionsOf (p : List Byte) : Option Options := do
  let laps ← present smallAbsent (natAt 0 1 p)
  let policy ← policyOf (natAt 1 1 p)
  let minimumField ← present smallAbsent (natAt 18 1 p)
  let lightsCount ← present smallAbsent (natAt 23 1 p)
  some {
    laps := laps
    policy := policy
    silenceLimit := natAt 2 2 p
    retireLimit := natAt 4 4 p
    extrapolationCap := natAt 8 2 p
    coastCap := natAt 10 2 p
    settleWindow := natAt 12 2 p
    graceWindow := natAt 14 4 p
    minimumField := minimumField
    entryWindow := natAt 19 4 p
    lightsCount := lightsCount
    lightInterval := natAt 24 2 p
    singleHold := natAt 26 4 p
    holdBudget := natAt 30 4 p }

/-- An option of OPEN: absent when its bytes are all 0xFF (R203). -/
def openOption (off w : Nat) (p : List Byte) : Option Nat := present (256 ^ w - 1) (natAt off w p)

/-- The OPEN request of a payload (R203). -/
def openForm (p : List Byte) : Form OpenFields :=
  if p.length = 38 then
    let o := p.drop 4
    .form {
      trackId := natAt 0 2 p
      signature := BitVec.ofNat 16 (natAt 2 2 p)
      laps := openOption 0 1 o
      policy := openOption 1 1 o
      silenceLimit := openOption 2 2 o
      retireLimit := openOption 4 4 o
      extrapolationCap := openOption 8 2 o
      coastCap := openOption 10 2 o
      settleWindow := openOption 12 2 o
      graceWindow := openOption 14 4 o
      minimumField := openOption 18 1 o
      entryWindow := openOption 19 4 o
      lightsCount := openOption 23 1 o
      lightInterval := openOption 24 2 o
      singleHold := openOption 26 4 o
      holdBudget := openOption 30 4 o }
  else .malformed p

/-- The CAR request of a payload of 10 to 120 bytes (R203). -/
def carForm (p : List Byte) : Form CarFields :=
  if 10 ≤ p.length ∧ p.length ≤ 120 then
    .form ⟨natAt 0 4 p, intAt 4 2 p, intAt 6 2 p, natAt 8 2 p, p.drop 10⟩
  else .malformed p

/-- The form of a request that carries no operands (R183). -/
def emptyForm (p : List Byte) : Form Unit := if p.isEmpty then .form () else .malformed p

/-! ## Race-bus payloads (R204) -/

/-- The payload of a report (R204). -/
def reportBytes (r : Report) : List Byte :=
  beBytes 6 r.stamp ++ beBytes 4 r.d ++ beSigned 2 r.v ++ beSigned 2 r.lateral ++ beBytes 2 r.heading ++ r.extra

/-- An entry of CONTROL ENTRIES, 3 bytes (R204). -/
def entryBytes (e : Entry) : List Byte := [byte e.station, smallByte e.slot, byte (entryStateCode e.state)]

/-- An entry of CONTROL RESULTS, 11 bytes (R204); its time counts saturate (R202). A slot or position above 15, or laps above
127, which a record can hold only where a frame carried a value out of range, is sent by its low bits (DESIGN CHOICE, log
61). -/
def resultBytes (e : ResultEntry) : List Byte :=
  byte (32 * e.station + 8 * statusCode e.status + marksCode e.marks) ::
    byte (16 * (e.slot.getD 0 % 16) + e.position.getD 0 % 16) ::
    (countBytes (e.tfElapsed.getD 0) ++
      byte (128 * e.bestLap.isSome.toNat + e.laps % 128) :: countBytes (e.bestLap.getD 0))

/-- The payload of a frame (R204). A BEAT's is formed at the start of its transmission (R137). -/
def Frame.payload : Frame → List Byte
  | .beat none => []
  | .beat (some b) =>
    beBytes 6 b.time ++ byte (phaseCode b.phase) :: raceByte b.raceNumber ::
      (timeBytes b.green ++ [b.holdSet, byte b.count])
  | .verdict v =>
    byte v.raceNumber :: byte v.station :: byte v.position :: (beBytes 6 v.tf ++ [byte (marksCode v.marks)])
  | .holdState n holding => [byte n, byte holding.toNat]
  | .raceSetup r =>
    byte 1 :: byte r.raceNumber :: byte (phaseCode r.phase) ::
      (timeBytes r.green ++ optionBytes r.options ++ beBytes 2 r.trackRef.id ++ beBytes 2 r.trackRef.signature.toNat)
  | .entries e =>
    [byte 2, byte e.raceNumber, byte (phaseCode e.phase), smallByte (e.refusal.map LastRefusal.station),
      smallByte (e.refusal.map fun r => refusalCode r.reason), byte e.entries.length] ++
      e.entries.flatMap entryBytes
  | .retire n st reason => [byte 3, byte n, byte st, byte (retireCode reason)]
  | .results n es => byte 4 :: byte n :: byte es.length :: es.flatMap resultBytes
  | .abort n reason => [byte 5, byte n, byte (abortCode reason)]
  | .enter n sig => byte 1 :: byte n :: beBytes 2 sig.toNat
  | .leave n => [byte 2, byte n]
  | .report n r => byte n :: reportBytes r
  | .announce a =>
    beBytes 6 a.serial.toNat ++ byte (a.pinned.toNat + 2 * a.eligible.toNat) :: a.label
  | .claim _ wanted => [byte wanted]

/-- A race-bound race number, which may not be absent (R202). -/
def raceAt (off : Nat) (p : List Byte) : Option Nat := present 0 (natAt off 1 p)

/-- A small number that may not be absent. -/
def smallAt (off : Nat) (p : List Byte) : Option Nat := present smallAbsent (natAt off 1 p)

/-- A race time that may not be absent. -/
def timeAt (off : Nat) (p : List Byte) : Option Nat := present timeAbsent (natAt off 6 p)

/-- The BEAT of a payload. -/
def beatOf (p : List Byte) : Option Frame := do
  guard (p.length = 16)
  let time ← timeAt 0 p
  let phase ← phaseOf (natAt 6 1 p)
  let count ← smallAt 15 p
  some (.beat (some ⟨time, phase, raceAt 7 p, timeAt 8 p, BitVec.ofNat 8 (natAt 14 1 p), count⟩))

/-- The VERDICT of a payload. -/
def verdictOf (p : List Byte) : Option Frame := do
  guard (p.length = 10)
  let n ← raceAt 0 p
  let st ← smallAt 1 p
  let position ← smallAt 2 p
  let tf ← timeAt 3 p
  some (.verdict ⟨n, st, position, tf, marksOf (natAt 9 1 p)⟩)

/-- The HOLD STATE of a payload. -/
def holdStateOf (p : List Byte) : Option Frame := do
  guard (p.length = 2)
  let n ← raceAt 0 p
  let holding ← wishOf (natAt 1 1 p)
  some (.holdState n holding)

/-- The RACE SETUP of a payload. -/
def raceSetupOf (p : List Byte) : Option Frame := do
  guard (p.length = 47)
  let n ← raceAt 1 p
  let phase ← phaseOf (natAt 2 1 p)
  let options ← optionsOf (bytesAt 9 34 p)
  some (.raceSetup ⟨n, phase, timeAt 3 p, options, ⟨natAt 43 2 p, BitVec.ofNat 16 (natAt 45 2 p)⟩⟩)

/-- The last refusal of an ENTRIES: absent when both its bytes are, and a form not allowed when only one is. -/
def refusalAt (off : Nat) (p : List Byte) : Option (Option LastRefusal) :=
  match smallAt off p, smallAt (off + 1) p with
  | none, none => some none
  | some st, some c => (refusalOf c).map fun r => some ⟨st, r⟩
  | _, _ => none

/-- `n` entries of an ENTRIES. A grid slot lies in 1 to 8 (R25, R69), and R202 makes a frame bad for an absence or an
unlisted code only: a slot of 0 or 9 to 254 is taken as carried (DESIGN CHOICE, log 60). -/
def entriesOf : Nat → List Byte → Option (List Entry)
  | 0, _ => some []
  | n + 1, p => do
    let st ← smallAt 0 p
    let state ← entryStateOf (natAt 2 1 p)
    let rest ← entriesOf n (p.drop 3)
    some (⟨st, smallAt 1 p, state⟩ :: rest)

/-- The ENTRIES of a payload. -/
def entriesFrameOf (p : List Byte) : Option Frame := do
  let count := natAt 5 1 p
  guard (6 ≤ p.length ∧ count ≤ 8 ∧ p.length = 6 + 3 * count)
  let n ← raceAt 1 p
  let phase ← phaseOf (natAt 2 1 p)
  let refusal ← refusalAt 3 p
  let es ← entriesOf count (p.drop 6)
  some (.entries ⟨n, phase, refusal, es⟩)

/-- The RETIRE of a payload. -/
def retireFrameOf (p : List Byte) : Option Frame := do
  guard (p.length = 4)
  let n ← raceAt 1 p
  let st ← smallAt 2 p
  let reason ← retireOf (natAt 3 1 p)
  some (.retire n st reason)

/-- One entry of a RESULTS: a FINISHED entry has a position, no other has one (R204). Positions and grid slots lie in 1 to
8 (R114, R25), and R204 names the position 0 alone as a form not allowed: a position or slot of 9 to 15, and laps above
those of the race, are taken as carried (DESIGN CHOICE, log 61). -/
def resultEntryOf (p : List Byte) : Option ResultEntry := do
  let a := natAt 0 1 p
  let b := natAt 1 1 p
  let c := natAt 6 1 p
  let status ← statusOf (a / 8 % 4)
  let fin := decide (status = .finished)
  guard (fin = decide (b % 16 ≠ 0))
  some {
    position := present 0 (b % 16)
    station := a / 32
    slot := present 0 (b / 16)
    status := status
    tfElapsed := if fin then some (natAt 2 4 p) else none
    bestLap := if 128 ≤ c then some (natAt 7 4 p) else none
    laps := c % 128
    marks := marksOf (a % 8) }

/-- `n` entries of a RESULTS. -/
def resultsOf : Nat → List Byte → Option (List ResultEntry)
  | 0, _ => some []
  | n + 1, p => do
    let e ← resultEntryOf p
    let rest ← resultsOf n (p.drop 11)
    some (e :: rest)

/-- The RESULTS of a payload. -/
def resultsFrameOf (p : List Byte) : Option Frame := do
  let count := natAt 2 1 p
  guard (3 ≤ p.length ∧ 1 ≤ count ∧ count ≤ 8 ∧ p.length = 3 + 11 * count)
  let n ← raceAt 1 p
  let es ← resultsOf count (p.drop 3)
  some (.results n es)

/-- The ABORT of a payload. -/
def abortFrameOf (p : List Byte) : Option Frame := do
  guard (p.length = 3)
  let n ← raceAt 1 p
  let reason ← abortOf (natAt 2 1 p)
  some (.abort n reason)

/-- The CONTROL frame of a payload, by its subkind. -/
def controlOf (p : List Byte) : Option Frame :=
  match p.head?.map BitVec.toNat with
  | some 1 => raceSetupOf p
  | some 2 => entriesFrameOf p
  | some 3 => retireFrameOf p
  | some 4 => resultsFrameOf p
  | some 5 => abortFrameOf p
  | _ => none

/-- The ENTRY frame of a payload, by its subkind. -/
def entryFrameOf (p : List Byte) : Option Frame :=
  match p.head?.map BitVec.toNat with
  | some 1 => do
    guard (p.length = 4)
    let n ← raceAt 1 p
    some (.enter n (BitVec.ofNat 16 (natAt 2 2 p)))
  | some 2 => do
    guard (p.length = 2)
    let n ← raceAt 1 p
    some (.leave n)
  | _ => none

/-- The REPORT of a payload. -/
def reportOf (p : List Byte) : Option Frame := do
  guard (17 ≤ p.length ∧ p.length ≤ 33)
  let n ← raceAt 0 p
  let stamp ← timeAt 1 p
  some (.report n ⟨stamp, natAt 7 4 p, intAt 11 2 p, intAt 13 2 p, natAt 15 2 p, p.drop 17⟩)

/-- The ANNOUNCE of a payload. -/
def announceOf (p : List Byte) : Option Frame := do
  guard (7 ≤ p.length ∧ p.length ≤ 15)
  let flags := natAt 6 1 p
  some (.announce ⟨BitVec.ofNat 48 (natAt 0 6 p), flags.testBit 0, flags.testBit 1, p.drop 7⟩)

/-- The CLAIM of a claimant's serial and a payload. -/
def claimOf (serial : Serial) (p : List Byte) : Option Frame := do
  guard (p.length = 1)
  let wanted ← smallAt 0 p
  some (.claim serial wanted)

/-- The frame of a kind that a payload spells; `none` for a form the kind does not allow (R152, R202, R204). The
serial is a CLAIM's. -/
def frameOf (k : FrameKind) (serial : Serial) (p : List Byte) : Option Frame :=
  match k with
  | .beat => beatOf p
  | .verdict => verdictOf p
  | .holdState => holdStateOf p
  | .control => controlOf p
  | .entry => entryFrameOf p
  | .report => reportOf p
  | .announce => announceOf p
  | .claim => claimOf serial p

/-! ## Race-bus characters (R147, R204) -/

/-- The kind of a class (R147). -/
def kindOfClass (n : Nat) : Option FrameKind :=
  ([.beat, .verdict, .holdState, .control, .entry, .report, .announce, .claim] : List FrameKind)[n]?

/-- The arbitration character of a kind and a source station: 0xFC for a CLAIM (R204). -/
def arbitrationChar (k : FrameKind) (source : Nat) : Byte :=
  byte (32 * k.class + 4 * (if k = .claim then 7 else source))

/-- The serial characters of a CLAIM; no other frame has any (R147). -/
def Frame.serialChars : Frame → List Byte
  | .claim serial _ => beBytes 6 serial.toNat
  | _ => []

/-- The characters of a frame from its arbitration character to its check (R147). -/
def Frame.characters (source : Nat) (f : Frame) : List Byte :=
  let covered := arbitrationChar f.kind source :: (f.serialChars ++ byte f.payload.length :: f.payload)
  covered ++ beBytes 2 (crc16 covered).toNat

/-- The characters a frame in flight puts on the line, from its arbitration character to its check: with the source
station of this attempt (R147). -/
def Flight.characters (fl : Flight) : List Byte := fl.frame.characters fl.source

/-- The frame that the characters after the arbitration part spell, when length, check and form are right (R152). -/
def bodyOf (k : FrameKind) (serial : Serial) (covered rest : List Byte) : Option Frame :=
  match rest with
  | [] => none
  | len :: body =>
    let n := len.toNat
    let payload := body.take n
    if n ≤ 96 ∧ body.length = n + 2 ∧ natAt n 2 body = (crc16 (covered ++ len :: payload)).toNat then
      frameOf k serial payload
    else none

/-- The source station and the frame that characters spell, arbitration character to check; `none` for a bad frame
(R152). -/
def receivedFrame (chars : List Byte) : Option (Nat × Frame) :=
  match chars with
  | [] => none
  | arb :: rest =>
    let a := arb.toNat
    if a % 4 ≠ 0 then none
    else match kindOfClass (a / 32) with
      | none => none
      | some .claim =>
        if a = 0xFC ∧ 6 ≤ rest.length then
          (bodyOf .claim (BitVec.ofNat 48 (natAt 0 6 rest)) (arb :: rest.take 6) (rest.drop 6)).map fun f => (7, f)
        else none
      | some k => (bodyOf k 0#48 [arb] rest).map fun f => (a / 4 % 8, f)

/-! ## The track's signature (R4) -/

/-- The bytes a signature is computed over. -/
def trackBytes (f : TrackFields) : List Byte :=
  beBytes 2 f.id ++ beBytes 4 f.L ++ beBytes 1 f.S ++ f.starts.flatMap (beBytes 4)

/-- The signature of a track. -/
def trackSignature (f : TrackFields) : Crc16 := crc16 (trackBytes f)

/-! ## Cabinet-link frames (R203) -/

/-- A frame of the cabinet link: sync, length, kind, payload and check (R203). -/
def linkFrame (kind : Byte) (payload : List Byte) : List Byte :=
  let covered := byte payload.length :: kind :: payload
  0x5A#8 :: (covered ++ [crc8 covered])

/-- The check of a frame with this kind and payload (R179). -/
def linkCheck (kind : Byte) (payload : List Byte) : Byte := crc8 (byte payload.length :: kind :: payload)

/-- The kind byte of a request (the request index). -/
def requestKind : Request → Byte
  | .setup _ => 0x01#8
  | .track _ => 0x02#8
  | .attach _ => 0x03#8
  | .detach _ => 0x04#8
  | .restart _ => 0x05#8
  | .enter _ => 0x10#8
  | .leave _ => 0x11#8
  | .ready _ => 0x12#8
  | .hold _ => 0x13#8
  | .car _ => 0x14#8
  | .openRace _ => 0x20#8
  | .formGrid _ => 0x21#8
  | .abort _ => 0x22#8
  | .close _ => 0x23#8
  | .askCar _ => 0x30#8
  | .askOrder _ => 0x31#8
  | .askResults _ => 0x32#8
  | .askStatus _ => 0x33#8
  | .timeForm _ => 0x34#8
  | .fetch _ => 0x40#8

/-- The kinds that name a request (the request index). -/
def requestKinds : List Byte :=
  [0x01#8, 0x02#8, 0x03#8, 0x04#8, 0x05#8, 0x10#8, 0x11#8, 0x12#8, 0x13#8, 0x14#8, 0x20#8, 0x21#8, 0x22#8, 0x23#8,
    0x30#8, 0x31#8, 0x32#8, 0x33#8, 0x34#8, 0x40#8]

/-- The result codes (R203). -/
def ResultCode.code : ResultCode → Nat
  | .done => 0 | .adjusted => 1 | .refusedState => 2 | .refusedRole => 3 | .badValue => 4
  | .trackMismatch => 5 | .tooLate => 6 | .fieldShort => 7 | .noSuchCar => 8

/-- The link error codes (R203). -/
def LinkErrorCode.code : LinkErrorCode → Nat
  | .check => 1 | .length => 2 | .timeout => 3 | .overrun => 4 | .unknownKind => 5

/-! ## Notices (R203) -/

/-- The notice kind codes (R203). -/
def NoticeBody.code : NoticeBody → Nat
  | .phase .. => 0x01 | .lights .. => 0x02 | .go .. => 0x03 | .order .. => 0x04 | .lap .. => 0x05
  | .fastestLap .. => 0x06 | .carSilent .. => 0x07 | .carBack .. => 0x08 | .carRetired .. => 0x09
  | .benched .. => 0x0A | .holdRefused .. => 0x0B | .entryRefused .. => 0x0C | .verdict .. => 0x0D
  | .results .. => 0x0E | .referee .. => 0x0F | .station .. => 0x10 | .duplicate .. => 0x11
  | .busStuck .. => 0x12 | .busClear .. => 0x13 | .clockRebase .. => 0x14 | .clockConflict .. => 0x15
  | .txFailed .. => 0x16 | .overflow .. => 0x17

/-- The codes of a LOBBY reason, in the order of R73. -/
def lobbyReasonCode : LobbyReason → Nat
  | .requested => 0 | .abandoned => 1 | .closed => 2

/-- The role codes, in the order of R133. -/
def roleCode : Role → Nat
  | .ineligible => 0 | .follower => 1 | .waiting => 2 | .acting => 3

/-- The causes of REFEREE, in the order of R140. -/
def refereeCauseCode : RefereeCause → Nat
  | .succession => 0 | .yield => 1 | .eligibility => 2 | .numberLost => 3 | .detach => 4

/-- The events of STATION, in the order of R177. -/
def stationEventCode : StationEvent → Nat
  | .joined => 0 | .quiet => 1 | .live => 2 | .removed => 3 | .numbered => 4 | .released => 5

/-- The causes of STATION NUMBERED in the order of R170 and of STATION RELEASED in the order of R171. -/
def stationCauseCode : StationCause → Nat
  | .pinned => 0 | .claimed => 1 | .alone => 2
  | .duplicate => 0 | .conflict => 1 | .pin => 2 | .detach => 3

/-- The numbering codes, in the order of R163. -/
def numberingCode : Numbering → Nat
  | .detached => 0 | .listening => 1 | .claiming => 2 | .numbered => 3 | .conflict => 4

/-- The outcomes of DUPLICATE, in the order of R177. -/
def duplicateCode : DuplicateOutcome → Nat
  | .kept => 0 | .released => 1 | .conflict => 2

/-- The causes of TX FAILED, in the order of R160. -/
def txCauseCode : TxCause → Nat
  | .unheard => 0 | .displaced => 1

/-- The body of a notice: the fields of its raising rule's table in the order listed (R203). R202 names no field kind for
the dropped count of OVERFLOW (R197): it is one byte, in which 255 goes out as 0xFF and is no absence (DESIGN CHOICE, log
29). -/
def noticeBodyBytes : NoticeBody → List Byte
  | .phase new previous n reason =>
    [byte (phaseCode new), byte (phaseCode previous), raceByte n, smallByte (reason.map lobbyReasonCode)]
  | .lights count green => byte count :: timeBytes green
  | .go green => timeBytes green
  | .order own leader => [smallByte own, smallByte leader]
  | .lap count time best => byte count :: (countBytes time ++ countBytes (best.getD 0))
  | .fastestLap st slot count time => byte st :: smallByte slot :: byte count :: countBytes time
  | .carSilent st slot p => byte st :: smallByte slot :: progressBytes p
  | .carBack st slot time => byte st :: smallByte slot :: countBytes time
  | .carRetired st slot reason p => byte st :: smallByte slot :: byte (retireCode reason) :: progressBytes p
  | .benched st slot => [byte st, smallByte slot]
  | .holdRefused green lights => timeBytes green ++ [byte lights]
  | .entryRefused reason => [byte (refusalCode reason)]
  | .verdict st slot position elapsed marks =>
    byte st :: smallByte slot :: byte position :: (countBytes elapsed ++ [byte (marksCode marks)])
  | .results n entries position status =>
    [byte n, byte entries, smallByte position, smallByte (status.map statusCode)]
  | .referee role referee cause => [byte (roleCode role), smallByte referee, byte (refereeCauseCode cause)]
  | .clockRebase source before _ => byte source :: beBytes 6 before
  | .clockConflict source target _ difference => byte source :: (beBytes 6 target ++ countBytes difference)
  | .station event n cause numbering =>
    [byte (stationEventCode event), byte n, smallByte (cause.map stationCauseCode), byte (numberingCode numbering)]
  | .duplicate n serial pinned outcome =>
    byte n :: (beBytes 6 serial.toNat ++ [byte pinned.toNat, byte (duplicateCode outcome)])
  | .busStuck kind subkind => [smallByte (kind.map FrameKind.class), smallByte subkind]
  | .busClear ticks => countBytes ticks
  | .txFailed kind subkind n attempts cause =>
    [byte kind.class, smallByte subkind, byte n, byte attempts, byte (txCauseCode cause)]
  | .overflow count => [byte count]

/-- A notice as FETCH lays it out (R203). -/
def Notice.bytes (n : Notice) : List Byte :=
  byte n.body.code :: (beBytes 6 n.time ++ byte (noticeBodyBytes n.body).length :: noticeBodyBytes n.body)

/-! ## The time form (R205) -/

/-- Two decimal digits packed in a byte. -/
def packed (n : Nat) : Byte := byte (16 * (n / 10 % 10) + n % 10)

/-- The 5 bytes of a time form, with the sign of the gap form. -/
def timeFormBytes (minus : Bool) (t : TimeForm) : List Byte :=
  [packed t.minutes, packed t.seconds, byte (t.milliseconds / 100), packed (t.milliseconds % 100),
    byte (t.saturated.toNat + 2 * minus.toNat)]

end Sys2Proof.Machine
end

