-- ==== Sys2Proof/Machine/Messages.lean ====
section
/-! DEFINITION. The payloads of the cabinet link built from the field encodings of R202 in the order the owning rule
lists them: requests both ways (R183, R203) and the bodies of replies (R186, R203, R205). Where R202 names no field kind
or no absence, the layout is the model's (log 29). -/

namespace Sys2Proof.Machine

/-! ## Requests, written -/

/-- SETUP's fields (R188): the pin code, the eligible byte, the two times as time counts, the timeout, and the label as
the rest of the payload. -/
def setupBytes (f : SetupFields) : List Byte :=
  byte f.pin :: byte f.eligible :: (beBytes 4 f.beatPeriod ++ byte f.timeout :: (beBytes 4 f.latency ++ f.label))

/-- CAR's fields (R203). -/
def carBytes (f : CarFields) : List Byte :=
  beBytes 4 f.d ++ beSigned 2 f.v ++ beSigned 2 f.lateral ++ beBytes 2 f.heading ++ f.extra

/-- An option of OPEN, all 0xFF when it is absent (R203). -/
def openOptionBytes (w : Nat) (o : Option Nat) : List Byte := beBytes w (o.getD (256 ^ w - 1))

/-- OPEN's fields (R203). -/
def openBytes (f : OpenFields) : List Byte :=
  beBytes 2 f.trackId ++ beBytes 2 f.signature.toNat ++ openOptionBytes 1 f.laps ++ openOptionBytes 1 f.policy ++
    openOptionBytes 2 f.silenceLimit ++ openOptionBytes 4 f.retireLimit ++ openOptionBytes 2 f.extrapolationCap ++
    openOptionBytes 2 f.coastCap ++ openOptionBytes 2 f.settleWindow ++ openOptionBytes 4 f.graceWindow ++
    openOptionBytes 1 f.minimumField ++ openOptionBytes 4 f.entryWindow ++ openOptionBytes 1 f.lightsCount ++
    openOptionBytes 2 f.lightInterval ++ openOptionBytes 4 f.singleHold ++ openOptionBytes 4 f.holdBudget

/-- ASK CAR's name (R46): the code of its form, in the order R46 lists the two, and the number. -/
def carNameBytes : CarName → List Byte
  | .station n => [0#8, byte n]
  | .slot k => [1#8, byte k]

/-- TIME FORM's kind and value (R122), the kinds in the order R122 lists them. -/
def timeValueBytes : TimeValue → List Byte
  | .elapsed e => 0#8 :: beBytes 4 e
  | .gap g => 1#8 :: beSigned 4 g
  | .otherKind k => byte k :: beBytes 4 0

/-- The bytes of a form. -/
def formBytes {α : Type} (write : α → List Byte) : Form α → List Byte
  | .form a => write a
  | .malformed payload => payload

/-- The payload of a request. -/
def requestPayload : Request → List Byte
  | .setup p => formBytes setupBytes p
  | .track p => formBytes trackBytes p
  | .attach p | .detach p | .restart p | .enter p | .leave p | .ready p | .hold p | .abort p | .close p
  | .askOrder p | .askResults p | .fetch p => formBytes (fun _ => []) p
  | .car p => formBytes carBytes p
  | .openRace p => formBytes openBytes p
  | .formGrid p => formBytes (fun named => named.map byte) p
  | .askCar p => formBytes carNameBytes p
  | .askStatus p => formBytes (fun clear : Bool => [byte clear.toNat]) p
  | .timeForm p => formBytes timeValueBytes p

/-- The characters of a request's frame on RXD (R203). -/
def requestCharacters (r : Request) : List Byte := linkFrame (requestKind r) (requestPayload r)

/-! ## Requests, read (R183) -/

/-- The SETUP of a payload. R202 names no kind for the referee timeout, so its byte 0xFF is the value 255 and no absence
(DESIGN CHOICE, log 29). -/
def setupForm (p : List Byte) : Form SetupFields :=
  if 11 ≤ p.length then .form ⟨natAt 0 1 p, natAt 1 1 p, natAt 2 4 p, natAt 6 1 p, natAt 7 4 p, p.drop 11⟩
  else .malformed p

/-- `n` values of four bytes. -/
def wordsOf : Nat → List Byte → List Nat
  | 0, _ => []
  | n + 1, p => natAt 0 4 p :: wordsOf n (p.drop 4)

/-- The TRACK of a payload: 7 bytes and four for each start, in the widths of R4. How many starts there are is for R2
to check. R202 names no kind for S, so its byte 0xFF is the value 255 and no absence (DESIGN CHOICE, log 29). -/
def trackForm (p : List Byte) : Form TrackFields :=
  if 7 ≤ p.length ∧ p.length % 4 = 3 then
    .form ⟨natAt 0 2 p, natAt 2 4 p, natAt 6 1 p, wordsOf ((p.length - 7) / 4) (p.drop 7)⟩
  else .malformed p

/-- The FORM GRID of a payload: a station in each byte, none of them absent (R85, R202). -/
def stationsForm (p : List Byte) : Form (List Nat) :=
  if p.all (fun b => b != 0xFF#8) then .form (p.map BitVec.toNat) else .malformed p

/-- The ASK CAR of a payload: a form byte that names a form, and a number that is not absent (R46, R202). -/
def carNameForm (p : List Byte) : Form CarName :=
  if p.length = 2 ∧ natAt 1 1 p ≠ smallAbsent then
    match natAt 0 1 p with
    | 0 => .form (.station (natAt 1 1 p))
    | 1 => .form (.slot (natAt 1 1 p))
    | _ => .malformed p
  else .malformed p

/-- The ASK STATUS of a payload: one flags byte, bit 0 the clear option (R192, R202). -/
def flagForm (p : List Byte) : Form Bool :=
  if p.length = 1 then .form ((natAt 0 1 p).testBit 0) else .malformed p

/-- The TIME FORM of a payload (R122). -/
def timeValueForm (p : List Byte) : Form TimeValue :=
  if p.length = 5 then
    match natAt 0 1 p with
    | 0 => .form (.elapsed (natAt 1 4 p))
    | 1 => .form (.gap (intAt 1 4 p))
    | k => .form (.otherKind k)
  else .malformed p

/-- The request that a kind and a payload spell; none for a kind that names no request (R183). -/
def readRequest (kind : Byte) (p : List Byte) : Option Request :=
  match kind.toNat with
  | 0x01 => some (.setup (setupForm p))
  | 0x02 => some (.track (trackForm p))
  | 0x03 => some (.attach (emptyForm p))
  | 0x04 => some (.detach (emptyForm p))
  | 0x05 => some (.restart (emptyForm p))
  | 0x10 => some (.enter (emptyForm p))
  | 0x11 => some (.leave (emptyForm p))
  | 0x12 => some (.ready (emptyForm p))
  | 0x13 => some (.hold (emptyForm p))
  | 0x14 => some (.car (carForm p))
  | 0x20 => some (.openRace (openForm p))
  | 0x21 => some (.formGrid (stationsForm p))
  | 0x22 => some (.abort (emptyForm p))
  | 0x23 => some (.close (emptyForm p))
  | 0x30 => some (.askCar (carNameForm p))
  | 0x31 => some (.askOrder (emptyForm p))
  | 0x32 => some (.askResults (emptyForm p))
  | 0x33 => some (.askStatus (flagForm p))
  | 0x34 => some (.timeForm (timeValueForm p))
  | 0x40 => some (.fetch (emptyForm p))
  | _ => none

/-! ## Field encodings of replies (R202) -/

/-- A flags byte of one flag, in bit 0. R202 gives flags the bits the layout gives: R203's layout of the CAR reply gives bit 0,
and no layout gives one for the order-incomplete mark of ASK ORDER, the conflict mark of ASK STATUS, or another flag that
stands alone in a reply: each is a byte of its own (DESIGN CHOICE, log 29). -/
def flagByte (b : Bool) : Byte := byte b.toNat

/-- A time count that may be absent: a presence byte, then its 4 bytes, 0 when it is absent (log 29). -/
def countOption (n : Option Nat) : List Byte := flagByte n.isSome :: countBytes (n.getD 0)

/-- A boundary index, two bytes, 0xFFFF when it is absent (log 29). -/
def indexBytes (n : Option Nat) : List Byte := beBytes 2 (n.getD 65535)

/-- A list of bytes with its length before it (log 29). -/
def listBytes (l : List Byte) : List Byte := byte l.length :: l

/-- The car state codes, in the order of R25. -/
def carStateCode : CarState → Nat
  | .idle => 0 | .entered => 1 | .gridded => 2 | .racing => 3 | .silent => 4 | .finished => 5 | .retired => 6
  | .benched => 7

/-- The line state codes, in the order of R143. -/
def lineStateCode : LineState → Nat
  | .off => 0 | .busy => 1 | .idle => 2 | .arbitrating => 3 | .sending => 4 | .receiving => 5 | .stuck => 6

/-- A gap: its kind in the order R65 lists them, and its value, 0 when it is absent (R60, R65). -/
def gapBytes : Gap → List Byte
  | .time t => 0#8 :: countBytes t
  | .laps n => 1#8 :: countBytes n
  | .absent => 2#8 :: countBytes 0

/-- The last report of a record: stamp, d, v, lateral, heading, and the extra bytes as a list (R47); without a report the
stamp is absent and the rest 0 (log 29). -/
def lastReportBytes (r : Option Report) : List Byte :=
  let f := r.getD ⟨timeAbsent, 0, 0, 0, 0, []⟩
  beBytes 6 f.stamp ++ beBytes 4 f.d ++ beSigned 2 f.v ++ beSigned 2 f.lateral ++ beBytes 2 f.heading ++
    listBytes f.extra

/-- The time form beside a tf elapsed: five zero bytes where there is none (R205). -/
def formOption : Option TimeForm → List Byte
  | some t => timeFormBytes false t
  | none => List.replicate 5 0#8

/-- The unconfirmed mark of a crossing (R15): a byte of marks, in the bit R202 gives unconfirmed, bit 2. -/
def unconfirmedByte (b : Bool) : Byte := byte (marksCode ⟨false, false, b⟩)

/-! ## Reply bodies (R186, R203) -/

/-- The SETUP fields but the label, as stored (R188). -/
def settingsBytes (x : Settings) : List Byte :=
  smallByte x.pin :: flagByte x.eligible :: (countBytes x.beatPeriod ++ byte x.timeout :: countBytes x.latency)

/-- The record of an ASK CAR reply, in the order of R47. -/
def carReplyBytes (r : CarReply) : List Byte :=
  let c := r.record
  beBytes 6 r.time ++
    [byte c.station, smallByte c.slot, byte (carStateCode c.state), smallByte (c.retireReason.map retireCode)] ++
    lastReportBytes c.report ++ progressBytes c.p ++ progressBytes c.pmax ++ progressBytes r.extrapolated ++
    [byte c.laps] ++ indexBytes (c.crossed.map Crossing.index) ++ timeBytes (c.crossed.map Crossing.time) ++
    [unconfirmedByte (c.crossed.any Crossing.unconfirmed)] ++ countOption c.lastLap ++ countOption c.bestLap ++
    timeBytes c.silentSince ++ timeBytes c.provisionalTf ++ timeBytes c.officialTf ++
    [smallByte c.position, byte (marksCode c.marks), smallByte r.position] ++ gapBytes r.gap

/-- A car of an ASK ORDER reply, in the order of R65. -/
def orderLineBytes (l : OrderLine) : List Byte :=
  [byte l.position, byte l.station, smallByte l.slot, byte (carStateCode l.state), byte l.laps] ++
    indexBytes l.crossed ++ [unconfirmedByte l.crossedUnconfirmed] ++ gapBytes l.gap ++ countOption l.bestLap ++
    [smallByte l.official, byte (marksCode l.marks)] ++ timeBytes l.finishTime

/-- An ASK ORDER reply, in the order of R65. -/
def orderReplyBytes (r : OrderReply) : List Byte :=
  beBytes 6 r.time ++ [byte (phaseCode r.phase), raceByte r.raceNumber, flagByte r.incomplete] ++
    indexBytes r.leading ++ [smallByte (r.fastest.map FastestLap.station), smallByte (r.fastest.map FastestLap.lap)] ++
    countOption (r.fastest.map FastestLap.time) ++ byte r.cars.length :: r.cars.flatMap orderLineBytes

/-- An entry of an ASK RESULTS reply, in the order of R119, with the time form of R205 after its tf elapsed. -/
def resultLineBytes (l : ResultLine) : List Byte :=
  let e := l.entry
  [smallByte e.position, byte e.station, smallByte e.slot, byte (statusCode e.status)] ++ countOption e.tfElapsed ++
    formOption l.form ++ countOption e.bestLap ++ [byte e.laps, byte (marksCode e.marks)]

/-- An ASK RESULTS reply, in the order of R119. -/
def resultsReplyBytes (r : ResultsReply) : List Byte :=
  beBytes 6 r.time ++ [byte (phaseCode r.phase), raceByte r.raceNumber] ++
    match r.list with
    | some x => flagByte true :: byte x.1 :: byte x.2.length :: x.2.flatMap resultLineBytes
    | none => [flagByte false]

/-- A directory entry of an ASK STATUS reply (R192): number, liveness, and what an ANNOUNCE completed it with, after a
presence byte; the pinned and referee-eligible flags share a byte, as in an ANNOUNCE (DESIGN CHOICE, log 29). -/
def statusStationBytes (e : StatusStation) : List Byte :=
  let a := e.info.getD ⟨0#48, false, false, []⟩
  [byte e.number, flagByte !e.live, flagByte e.info.isSome] ++ beBytes 6 a.serial.toNat ++
    [byte (a.pinned.toNat + 2 * a.eligible.toNat)] ++ listBytes a.label

/-- The track of an ASK STATUS reply (R192): a flag, then id, L, S and signature when one is loaded. -/
def statusTrackBytes : Option (Nat × Nat × Nat × Crc16) → List Byte
  | some (id, L, S, signature) =>
    flagByte true :: (beBytes 2 id ++ beBytes 4 L ++ beBytes 1 S ++ beBytes 2 signature.toNat)
  | none => [flagByte false]

/-- An ASK STATUS reply, in the order of R192. No layout gives the bits of the straps: here one byte, LRATE0 in bit 0, LRATE1
in bit 1 and BRATE in bit 2 (DESIGN CHOICE, log 29). -/
def statusReplyBytes (r : StatusReply) : List Byte :=
  beBytes 6 r.serial.toNat ++ settingsBytes r.settings ++ listBytes r.settings.label ++
    [byte (r.straps.linkRate0.toNat + 2 * r.straps.linkRate1.toNat + 4 * r.straps.busRate.toNat),
      byte (numberingCode r.numbering), smallByte r.number, byte r.entryCount, byte r.liveCount] ++
    r.stations.flatMap statusStationBytes ++ beBytes 6 r.time ++ countBytes r.holdOff ++ countOption r.followed ++
    [flagByte r.conflict, byte (roleCode r.role), smallByte r.referee, byte (phaseCode r.phase), raceByte r.raceNumber] ++
    statusTrackBytes r.track ++ [byte (lineStateCode r.line), byte r.receiveErrors] ++ beBytes 2 r.droppedReports ++
    beBytes 2 r.superseded ++ [byte r.noticesWaiting, byte r.noticesDropped]

/-- The body bytes of a reply, after its result code. -/
def ReplyBody.bytes : ReplyBody → List Byte
  | .empty => []
  | .setup x => settingsBytes x ++ x.label
  | .track signature => beBytes 2 signature.toNat
  | .car position laps deposited => [smallByte position, byte laps, flagByte deposited]
  | .openRace n => [byte n]
  | .askCar r => carReplyBytes r
  | .askOrder r => orderReplyBytes r
  | .askResults r => resultsReplyBytes r
  | .askStatus r => statusReplyBytes r
  | .timeForm minus form => timeFormBytes minus form
  | .fetch removed waiting => byte removed.length :: byte waiting :: removed.flatMap Notice.bytes

/-- The characters of a reply on TXD (R186, R203). -/
def Reply.characters : Reply → List Byte
  | .answer kind result body => linkFrame kind (byte result.code :: body.bytes)
  | .linkError code kind => linkFrame 0xFF#8 (byte code.code :: kind.toList)

/-! ## Malformed payloads (R183) -/

/-- Whether a form is malformed. -/
def formBad {α : Type} : Form α → Bool
  | .form _ => false
  | .malformed _ => true

/-- Whether a request's payload is not one of the forms it allows (R183). -/
def requestBad : Request → Bool
  | .setup p => formBad p
  | .track p => formBad p
  | .attach p | .detach p | .restart p | .enter p | .leave p | .ready p | .hold p | .abort p | .close p
  | .askOrder p | .askResults p | .fetch p => formBad p
  | .car p => formBad p
  | .openRace p => formBad p
  | .formGrid p => formBad p
  | .askCar p => formBad p
  | .askStatus p => formBad p
  | .timeForm p => formBad p

end Sys2Proof.Machine
end

