-- ==== Sys2Proof/Machine/Flags.lean ====
section
/-! DEFINITION. The flags, marks and counts the manual computes from other state: ATTN, the lights count, the hold
set, the order-incomplete mark, the marks of a verdict, and the extrapolation. -/

namespace Sys2Proof.Machine

/-! ## Sets of stations -/

/-- The bit of a station in a set; nothing for a number above 7. -/
def stationBit (st : Nat) : StationSet := if st < 8 then 1#8 <<< st else 0#8

/-- Whether a station is in a set. -/
def inSet (m : StationSet) (st : Nat) : Bool := m.getLsbD st

/-- A set with a station added. -/
def addToSet (m : StationSet) (st : Nat) : StationSet := m ||| stationBit st

/-- The hold set a hold table gives: the stations whose rows are holding (R88). -/
def holdSetOf (table : List HoldRow) : StationSet :=
  table.foldl (fun m r => if r.holdStart.isSome then addToSet m r.station else m) 0#8

/-! ## ATTN (R195) -/

/-- ATTN is driven low while the list holds at least one notice. -/
def State.attnLow (s : State) : Bool := !s.notices.list.isEmpty

/-! ## Lights (R96) -/

/-- The lights count of a countdown: N minus the ceiling of (G − now)/interval, plus 1, within 0 to N (R96). For the
interval 0, which a RACE SETUP can carry (log 62), R96 gives no quotient: the count is then a free value within 0 to N
(log 2). -/
def lightsAt (o : Options) (green now : Nat) : Nat :=
  let n : Int := o.lightsCount
  let count : Int :=
    if o.lightInterval = 0 then Config.lightsWithoutInterval o.lightsCount green now
    else n - ceilDiv ((green : Int) - now) o.lightInterval + 1
  (max 0 (min count n)).toNat

/-- The lights count of a station before green: by its G and local race time in COUNTDOWN, and 0 in every other
case (R96). -/
def State.lightsBeforeGreen (s : State) : Nat :=
  match s.race.phase, s.race.green with
  | .countdown, some g => lightsAt s.race.options g s.clock.time
  | _, _ => 0

/-- Set the lights count; LIGHTS is raised when it changes (R96). -/
def State.setLights (n : Nat) (s : State) : State :=
  if s.race.lights = n then s
  else (s.withRace { s.race with lights := n }).raise (.lights n s.race.green)

/-- Bring the lights count of a countdown up to date. -/
def State.updateLights (s : State) : State := s.setLights s.lightsBeforeGreen

/-! ## Extrapolation (R22 to R24) -/

/-- The cap of the table of R22, when the car's state has one. -/
def extrapolationCapOf (s : State) (c : CarRecord) : Option Nat :=
  if s.race.phase = .results then none
  else match c.state with
    | .racing => some s.race.options.extrapolationCap
    | .silent => if s.race.options.policy = .coast then some s.race.options.coastCap else none
    | _ => none

/-- P + v·min(age, cap)/10,000, the quotient truncated toward zero (R22). -/
def runForward (p v : Int) (age cap : Nat) : Int := p + (v * (min age cap : Nat)).tdiv 10000

/-- The extrapolated progress of a car at local race time (R22, R23, R5). -/
def extrapolated (s : State) (c : CarRecord) : Option Int :=
  match s.track, c.p with
  | some _, some p =>
    match extrapolationCapOf s c, c.report with
    | some cap, some r => some (runForward p r.v (s.clock.time - r.stamp) cap)
    | _, _ => some p
  | _, _ => none

/-- The order progress of a car (R44). -/
def orderProgress (s : State) (c : CarRecord) : Option Int :=
  if c.state = .silent ∧ s.race.options.policy = .coast then extrapolated s c else c.p

/-! ## The silence reference (R42) -/

/-- The later of the stamp of the last report and G. While G is absent R42 gives no reference: here it is the stamp of the
last report alone, and none without a report (DESIGN CHOICE, log 34). -/
def silenceReference (green : Option Nat) (c : CarRecord) : Option Nat :=
  match c.report, green with
  | some r, some g => some (max r.stamp g)
  | some r, none => some r.stamp
  | none, some g => some g
  | none, none => none

/-- Whether local race time has passed a car's silence reference plus a limit (R42, R98). -/
def State.unheardPast (s : State) (c : CarRecord) (limit : Nat) : Bool :=
  match silenceReference s.race.green c with
  | some ref => decide (ref + limit < s.clock.time)
  | none => false

/-! ## Verdicts (R107, R108) and the order-incomplete mark (R66) -/

/-- Whether a record of the race holds an official position. -/
def State.positionHeld (s : State) (p : Nat) : Bool := s.cars.any fun c => c.position == some p

/-- How many records hold an official position. -/
def State.positionsHeld (s : State) : Nat := (s.cars.filter fun c => c.position.isSome).length

/-- The position of the next verdict (R107 step 1): the lowest from 1 to the verdict count that no record holds,
else the count plus 1. -/
def State.nextPosition (s : State) : Nat :=
  match (List.range s.finish.verdictCount).find? fun i => !s.positionHeld (i + 1) with
  | some i => i + 1
  | none => s.finish.verdictCount + 1

/-- The official times of the records that hold a position. -/
def State.officialTimes (s : State) : List Nat :=
  s.cars.filterMap fun c => if c.position.isSome then c.officialTf else none

/-- The marks of a verdict (R108). -/
def State.verdictMarks (s : State) (e : PendingFinish) : Marks where
  deadHeat := s.officialTimes.any fun t => t == e.tf
  lateJudged := s.officialTimes.any fun t => decide (e.tf < t)
  unconfirmed := e.unconfirmed

/-- The order-incomplete mark (R66). -/
def State.orderIncomplete (s : State) : Bool :=
  s.finish.results.isNone && decide (s.positionsHeld < s.finish.verdictCount)

/-- Marks added to marks (R111). -/
def orMarks (a b : Marks) : Marks :=
  ⟨a.deadHeat || b.deadHeat, a.lateJudged || b.lateJudged, a.unconfirmed || b.unconfirmed⟩

end Sys2Proof.Machine
end

