-- ==== Sys2Proof/Machine/Order.lean ====
section
/-! DEFINITION. The Order and Timing Unit (R49 to R68): the running order and its re-evaluation, the
first-crossing ring, gaps, and the race fastest lap. -/

namespace Sys2Proof.Machine

/-! ## The running order (R50 to R54) -/

/-- Whether a car is in the running order (R50). R50 calls the order empty in ENTRY, where no car has been given a grid slot
yet. Cars still GRIDDED after R75 took a station from GRID, COUNTDOWN or a later phase back to ENTRY stay listed, as R50's
rule by states has it (DESIGN CHOICE, log 53). -/
def CarRecord.listed (c : CarRecord) : Bool :=
  match c.state with
  | .gridded | .racing | .silent | .finished | .retired => true
  | .idle | .entered | .benched => false

/-- The last two tie-breaks: lower grid slot, then lower station number. -/
def CarRecord.slotStationKey (c : CarRecord) : List Int := slotKey c.slot ++ [(c.station : Int)]

/-- The sort key within the FINISHED group (R52). -/
def finishedKey (c : CarRecord) : List Int :=
  match c.position with
  | some p => [0, 0, (p : Int)] ++ c.slotStationKey
  | none => match c.provisionalTf with
    | some t => [1, 0, (t : Int)] ++ c.slotStationKey
    | none => [1, 1, 0] ++ c.slotStationKey

/-- The key places for the earlier crossing time of the last crossed boundary (R53). -/
def crossingKey : Option Crossing → List Int
  | some x => [0, x.time]
  | none => [1, 0]

/-- The sort key within the running group (R53). -/
def runningKey (s : State) (c : CarRecord) : List Int :=
  let dropped : Int := if c.state = .silent ∧ s.race.options.policy = .drop then 1 else 0
  match orderProgress s c with
  | some p => [dropped, 0, -p] ++ crossingKey c.crossed ++ c.slotStationKey
  | none => [dropped, 1, 0, 0, 0] ++ c.slotStationKey

/-- The sort key within the RETIRED group (R54). -/
def retiredKey (c : CarRecord) : List Int := progressKey c.p ++ c.slotStationKey

/-- Whether the running order is by progress: from RACING on (R52), and by grid slot before (R51). -/
def fromGreen : Phase → Bool
  | .racing | .finishing | .results => true
  | .detached | .claiming | .lobby | .entry | .grid | .countdown => false

/-- The sort key of a car of the running order (R51, R52). R51 orders GRID and COUNTDOWN alone; the cars still GRIDDED in
ENTRY after R75 moved the phase back go by the same key, lower grid slot first (DESIGN CHOICE, log 53). -/
def orderKey (s : State) (c : CarRecord) : List Int :=
  if fromGreen s.race.phase then
    match c.state with
    | .finished => 0 :: finishedKey c
    | .retired => 2 :: retiredKey c
    | _ => 1 :: runningKey s c
  else c.slotStationKey

/-- The running order built afresh from the records (R55). -/
def State.runningOrder (s : State) : List Nat :=
  (sortByKey (orderKey s) (s.cars.filter CarRecord.listed)).map CarRecord.station

/-- A station's position in the running order as it stands. -/
def State.placeInOrder (s : State) (st : Nat) : Option Nat := placeOf st s.order.order

/-- The own car's position in a running order. -/
def State.ownPlaceIn (s : State) (order : List Nat) : Option Nat :=
  match s.ownStation with
  | some st => placeOf st order
  | none => none

/-- Re-evaluate the running order (R55), and raise ORDER when the pair of own position and leader changes (R56). -/
def State.reevaluate (s : State) : State :=
  let order := s.runningOrder
  let own := s.ownPlaceIn order
  let leader := order.head?
  let t := s.withOrder { s.order with order := order, reportedOwn := own, reportedLeader := leader }
  if own = s.order.reportedOwn ∧ leader = s.order.reportedLeader then t else t.raise (.order own leader)

/-- The re-evaluation of records handed over: once, when any of them differs from what was held before (R55). -/
def State.reevaluateAfter (before : List CarRecord) (s : State) : State :=
  if s.cars = before then s else s.reevaluate

/-! ## The first-crossing ring and the leading boundary (R57, R58) -/

/-- Apply a crossing of boundary `b` at `tc` to the ring and the leading boundary. -/
def OrderUnit.cross (b tc : Nat) (o : OrderUnit) : OrderUnit :=
  let i := b % 64
  let ring := match o.ring.getD i none with
    | none => o.ring.set i (some ⟨b, tc⟩)
    | some e =>
      if e.index < b then o.ring.set i (some ⟨b, tc⟩)
      else if e.index = b then o.ring.set i (some ⟨b, min e.time tc⟩)
      else o.ring
  let leading := match o.leading with
    | none => some b
    | some l => some (max l b)
  { o with ring := ring, leading := leading }

/-! ## Gaps (R60) -/

/-- The gap of a car's record, from the ring and the leading boundary as they stand. -/
def State.gapOf (s : State) (c : CarRecord) : Gap :=
  match c.crossed, s.track with
  | some x, some t =>
    match s.order.ring.getD (x.index % 64) none with
    | some e => if e.index = x.index then .time (saturate (x.time - e.time))
      else .laps ((s.order.leading.getD 0 - x.index) / t.S)
    | none => .laps ((s.order.leading.getD 0 - x.index) / t.S)
  | _, _ => .absent

/-! ## Lap completions (R62, R63) -/

/-- Whether a lap time becomes the race fastest lap (R62). -/
def OrderUnit.isFastest (o : OrderUnit) (time : Nat) : Bool :=
  match o.fastest with
  | none => true
  | some f => decide (time < f.time)

/-- A lap completion (car, lap number, lap time): LAP for the own car, then the race fastest lap with FASTEST LAP
when it changes. -/
def State.lapCompleted (c : CarRecord) (lap time : Nat) (s : State) : State :=
  let s := if s.ownStation = some c.station then s.raise (.lap lap time c.bestLap) else s
  if s.order.isFastest time then
    (s.withOrder { s.order with fastest := some ⟨c.station, time, lap⟩ }).raise
      (.fastestLap c.station c.slot lap time)
  else s

end Sys2Proof.Machine
end

