-- ==== Sys2Proof/Machine/Race.lean ====
section
/-! DEFINITION. Race Control's shared operations (R69 to R78, R96, R97): changing the phase, clearing the race,
green and its undoing, and handing the entry list to the Car Table (R28). -/

namespace Sys2Proof.Machine

/-! ## The phase (R73) -/

/-- Set the phase without a notice. Enter pending is cleared when the phase leaves ENTRY (R83), hold asked when it
leaves GRID and COUNTDOWN (R89). -/
def State.setPhase (new : Phase) (s : State) : State :=
  s.withRace { s.race with
    phase := new
    enterPending := s.race.enterPending && decide (new = .entry)
    holdAsked := s.race.holdAsked && (decide (new = .grid) || decide (new = .countdown)) }

/-- Change the phase, raising PHASE that names the phase left and the one arrived in (R73). -/
def State.changePhase (previous new : Phase) (reason : Option LobbyReason) (s : State) : State :=
  let t := s.setPhase new
  t.raise (.phase new previous t.race.raceNumber reason)

/-! ## Clearing the race (R70) -/

/-- Clear the race without a notice (R70, R33, R49, R103, R161): the clearing of a DETACH, whose notices R200 lists without
LIGHTS (DESIGN CHOICE, log 54). -/
def State.clearRaceQuietly (s : State) : State :=
  let s := { s with
    cars := s.cars.map CarRecord.renewed
    order := OrderUnit.cleared
    finish := FinishJudge.cleared
    dir := { s.dir with slots := [] }
    race := { s.race with
      entries := [], lastRefusal := none, green := none, remainder := none, lights := 0, holdSet := 0#8,
      enterPending := false, holdAsked := false, holdTable := [], entryDeadline := none, graceDeadline := none } }
  s.purgeRace

/-- Clear the race (R70): LIGHTS is raised with a count of 0 when the count changes, as at every change of it (R96). -/
def State.clearRace (s : State) : State :=
  let t := s.clearRaceQuietly
  if s.race.lights = 0 then t else t.raise (.lights 0 none)

/-! ## Green (R97, R8, R29) -/

/-- The progress a lap distance starts from: the nearest reading to the start line (R8). -/
def startProgress (L d : Nat) : Int := if 2 * d ≤ L then (d : Int) else (d : Int) - L

/-- A GRIDDED car at green: RACING, with its progress started from its last report (R8, R29). -/
def CarRecord.atGreen (track : Option Track) (c : CarRecord) : CarRecord :=
  if c.state = .gridded then
    match track, c.report with
    | some t, some r =>
      { c with state := .racing, p := some (startProgress t.L r.d), pmax := some (startProgress t.L r.d) }
    | _, _ => { c with state := .racing }
  else c

/-- Apply green (R97). `arriving` is the phase the move ends in: when it is RACING, PHASE is raised here; on the way
to FINISHING or RESULTS it is raised when that phase is set. From green on the lights count is N (R96). -/
def State.applyGreen (arriving : Phase) (s : State) : State :=
  let left := s.race.phase
  let s := s.setLights s.race.options.lightsCount
  let s := if arriving = .racing then s.changePhase left .racing none else s.setPhase .racing
  let s := (s.withCars (s.cars.map (CarRecord.atGreen s.track))).reevaluate
  if left = .countdown then s.raise (.go s.race.green) else s

/-- Undo green (R77). -/
def State.undoGreen (s : State) : State :=
  let s := (s.withCars (s.cars.map CarRecord.undoGreen)).withOrder OrderUnit.cleared
  let s := (s.withFinish FinishJudge.cleared).reevaluate
  let s := s.setLights 0
  s.withRace { s.race with green := none }

/-! ## The entry list (R28, R176) -/

/-- The entry of a station in an entry list. Of a list that names a station twice, which no rule considers, the first entry
holds (DESIGN CHOICE, log 47). -/
def entryOf (es : List Entry) (st : Nat) : Option Entry := es.find? (·.station == st)

/-- A listed entry applied to its record (the table of R28). The table has no row for GRIDDED in a phase before GRID, where
an IDLE, ENTERED or GRIDDED car stays as it stands, slot included; nor for ENTERED or BENCHED listed for a car held RACING,
SILENT, FINISHED or RETIRED, which keeps its state and its slot (DESIGN CHOICE, log 37). Its rows for GRIDDED and BENCHED name
a slot: an entry listed so without one leaves the car without one (DESIGN CHOICE, log 60). -/
def applyEntry (phase : Phase) (e : Entry) (c : CarRecord) : CarRecord :=
  match e.state, c.state with
  | _, .benched => c
  | .entered, .idle | .entered, .entered | .entered, .gridded => { c with state := .entered, slot := none }
  | .entered, _ => c
  | .gridded, .idle | .gridded, .entered | .gridded, .gridded =>
    match phase with
    | .grid | .countdown => { c with state := .gridded, slot := e.slot }
    | .racing | .finishing | .results => { c with state := .racing, slot := e.slot, p := none, pmax := none }
    | _ => c
  | .gridded, _ => { c with slot := e.slot }
  | .benched, .idle | .benched, .entered | .benched, .gridded => { c with state := .benched, slot := e.slot }
  | .benched, _ => c

/-- An entry list applied to a record: its entry, or for an unlisted car the return to IDLE (R28). -/
def applyEntries (phase : Phase) (es : List Entry) (c : CarRecord) : CarRecord :=
  match entryOf es c.station with
  | some e => applyEntry phase e c
  | none =>
    match c.state with
    | .entered | .gridded => { c with state := .idle, slot := none }
    | _ => c

/-- The grid-slot map an entry list fills (R176). Of a list that names a slot twice, which no rule considers, the first entry
stands (DESIGN CHOICE, log 47). The map is one of slots 1 to 8 (R163), and an ENTRIES can carry a slot of 0 or 9 to 254:
such a slot is mapped as carried (DESIGN CHOICE, log 60). -/
def slotMap (es : List Entry) : List SlotEntry :=
  es.foldl (fun m e =>
    match e.slot with
    | some k => if m.any (·.slot == k) then m else m ++ [⟨k, e.station⟩]
    | none => m) []

/-- The BENCHED notices an entry list causes: the cars it benches that were not BENCHED before (R31, R48). Several of one
list are raised in ascending station number, for which no rule gives an order (DESIGN CHOICE, log 36). -/
def benchedNotices (phase : Phase) (es : List Entry) (cars : List CarRecord) : List NoticeBody :=
  cars.filterMap fun c =>
    let d := applyEntries phase es c
    if c.state ≠ .benched ∧ d.state = .benched then some (.benched d.station d.slot) else none

/-- Fill the grid-slot map (R176): on the referee at every change of its list, elsewhere when the list carries grid
slots. R176 does not consider a received list in which only some entries carry one: a single slot is enough to fill the map
anew (DESIGN CHOICE, log 60). -/
def State.fillSlots (s : State) : State :=
  if s.acting || s.race.entries.any (fun e => e.slot.isSome) then
    s.withDir { s.dir with slots := slotMap s.race.entries }
  else s

/-- Hand the entry list to the Car Table (R28, R78), with one re-evaluation when any car changed (R55), and fill
the grid-slot map. -/
def State.handEntries (s : State) : State :=
  let phase := s.race.phase
  let es := s.race.entries
  let cars := s.cars.map (applyEntries phase es)
  let t := (s.withCars cars).raiseAll (benchedNotices phase es s.cars)
  (t.reevaluateAfter s.cars).fillSlots

/-- What a station does with the outcome of its ENTER when it takes an entry list (R83). -/
def State.settleEnter (s : State) : State :=
  match s.race.enterPending, s.ownStation with
  | true, some own =>
    if (entryOf s.race.entries own).isSome then s.withRace { s.race with enterPending := false }
    else match s.race.lastRefusal with
      | some r =>
        if r.station = own then
          (s.withRace { s.race with enterPending := false }).raise (.entryRefused r.reason)
        else s
      | none => s
  | _, _ => s

/-! ## CONTROL frames of the referee (R78, R80) -/

/-- Deposit CONTROL RACE SETUP with the state as it stands (R79, R80); the race's track id and signature are free
values while they are absent (log 2). -/
def State.depositRaceSetup (s : State) : State :=
  let ref := s.race.trackRef.getD ⟨Config.absentTrackId, Config.absentSignature⟩
  s.deposit (.raceSetup ⟨s.raceNumber0, s.race.phase, s.race.green, s.race.options, ref⟩)

/-- Deposit CONTROL ENTRIES with the state as it stands (R78). -/
def State.depositEntries (s : State) : State :=
  s.deposit (.entries ⟨s.raceNumber0, s.race.phase, s.race.lastRefusal, s.race.entries⟩)

/-- The entrants not BENCHED. -/
def State.startersCount (s : State) : Nat := (s.race.entries.filter fun e => e.state ≠ .benched).length

/-- Replace the hold table, and the hold set it gives (R69, R88). -/
def State.withHoldTable (t : List HoldRow) (s : State) : State :=
  s.withRace { s.race with holdTable := t, holdSet := holdSetOf t }

/-- A hold table in which every entrant not BENCHED holds from a time with nothing held before (R78, R85). -/
def freshHoldTable (es : List Entry) (now : Nat) : List HoldRow :=
  es.map fun e => ⟨e.station, if e.state = .benched then none else some now, 0⟩

end Sys2Proof.Machine
end

