-- ==== Sys2Proof/Machine/Finish.lean ====
section
/-! DEFINITION. The Finish Judge's shared operations (R103 to R118): the pending finish list and issuing verdicts,
retirement, the results list, and the end of the race (R100). -/

namespace Sys2Proof.Machine

/-! ## The pending finish list (R103, R106) -/

/-- The sort key of a pending finish: tf, then lower grid slot, then lower station number (R103). -/
def PendingFinish.key (e : PendingFinish) : List Int := (e.tf : Int) :: slotKey e.slot ++ [(e.station : Int)]

/-- Place a finish on the pending list, once per car and not for a car that holds a position (R106). -/
def State.judge (e : PendingFinish) (s : State) : State :=
  let held := (s.car? e.station).any fun c => c.position.isSome
  if held || s.finish.waiting.any (fun x => x.station == e.station) then s
  else s.withFinish { s.finish with waiting := insertByKey PendingFinish.key e s.finish.waiting }

/-- Take a car off the pending list (R105). -/
def State.unjudge (st : Nat) (s : State) : State :=
  s.withFinish { s.finish with waiting := s.finish.waiting.filter fun x => x.station ≠ st }

/-- A car's own entry for the pending list, when it is FINISHED with a provisional tf and no position (R113). -/
def CarRecord.pendingEntry (c : CarRecord) : Option PendingFinish :=
  match c.state, c.position, c.provisionalTf with
  | .finished, none, some tf => some ⟨c.station, tf, c.slot, c.marks.unconfirmed⟩
  | _, _, _ => none

/-! ## The results list (R114, R115) -/

/-- The status of a record (R115). The table of R115 has no row for IDLE, which stands here with GRIDDED and ENTERED: NOT
CLASSIFIED (DESIGN CHOICE, log 49). -/
def CarRecord.status (c : CarRecord) : ResultStatus :=
  match c.state, c.position with
  | .finished, some _ => .finished
  | .retired, _ => .retired
  | .benched, _ => .benched
  | _, _ => .notClassified

/-- A record's entry in the results list (R114). -/
def State.resultEntry (s : State) (c : CarRecord) : ResultEntry :=
  let fin := decide (c.status = .finished)
  { position := if fin then c.position else none
    station := c.station
    slot := c.slot
    status := c.status
    tfElapsed := if fin then c.officialTf.map s.elapsedOf else none
    bestLap := c.bestLap
    laps := c.laps
    marks := if fin then c.marks else Marks.clear }

/-- The sort key of a record in the results list (R114). R114 breaks no tie among BENCHED entries and does not place one
without a grid slot: an absent slot stands last, and the lower station number breaks what is left (DESIGN CHOICE, log
49). -/
def resultKey (c : CarRecord) : List Int :=
  match c.status with
  | .finished => [0, (c.position.getD 0 : Nat)]
  | .notClassified => 1 :: progressKey c.p ++ c.slotStationKey
  | .retired => 2 :: progressKey c.p ++ c.slotStationKey
  | .benched => 3 :: c.slotStationKey

/-- The results list: one entry for each entrant that has a record, in the order of R114. Where no entrant has one the
list is held with no entry, which no rule considers (DESIGN CHOICE, log 41). -/
def State.buildResults (s : State) : ResultsList :=
  let cars := s.race.entries.filterMap fun e => s.car? e.station
  ⟨s.raceNumber0, (sortByKey resultKey cars).map s.resultEntry⟩

/-- A listed status set in a record (the table of R32). Retire reason and silent-since stay only with RETIRED and
SILENT (R25). R31 keeps a BENCHED car BENCHED until the race is cleared; one that the list names otherwise is moved here as
R32's table says (DESIGN CHOICE, log 35). NOT CLASSIFIED clears the unconfirmed mark, also of a car that holds no
provisional finish, whose mark neither R105 nor R117 names (DESIGN CHOICE, log 50). -/
def applyStatus (status : ResultStatus) (c : CarRecord) : CarRecord :=
  match status with
  | .finished => { c with state := .finished, silentSince := none, retireReason := none }
  | .retired => { c with state := .retired, silentSince := none }
  | .benched => { c with state := .benched, silentSince := none, retireReason := none }
  | .notClassified =>
    if c.state = .silent then c.withdrawFinish
    else { c.withdrawFinish with state := .racing, retireReason := none }

/-- The entry of a station in a results list. Of a list that names a station twice, which no rule considers, the first
entry gives the state, while the reconciliation of R117 takes every entry in turn (DESIGN CHOICE, log 47). -/
def resultOf (es : List ResultEntry) (st : Nat) : Option ResultEntry := es.find? (·.station == st)

/-- A results list applied to a record: its entry's status; a car it does not name keeps its state (R32). -/
def applyResults (es : List ResultEntry) (c : CarRecord) : CarRecord :=
  match resultOf es c.station with
  | some e => applyStatus e.status c
  | none => c

/-- Whether a pending finish stays when a results list is handed over: not where its car is NOT CLASSIFIED (R105). -/
def keepsPending (es : List ResultEntry) (x : PendingFinish) : Bool :=
  match resultOf es x.station with
  | some e => decide (e.status ≠ .notClassified)
  | none => true

/-- Hand every entry of a results list to the Car Table (R32, R105). -/
def State.handResults (es : List ResultEntry) (s : State) : State :=
  let s := s.withCars (s.cars.map (applyResults es))
  s.withFinish { s.finish with waiting := s.finish.waiting.filter (keepsPending es) }

/-- The RESULTS notice (R118). -/
def State.raiseResults (r : ResultsList) (s : State) : State :=
  let own := s.ownStation.bind (resultOf r.entries)
  s.raise (.results r.raceNumber r.entries.length (own.bind ResultEntry.position) (own.map ResultEntry.status))

/-- Deposit CONTROL RESULTS with the list held (R116). A list without an entry has no frame, since the frame carries 1 to
8 (R204), so nothing is deposited for it (DESIGN CHOICE, log 41). -/
def State.depositResults (s : State) : State :=
  match s.finish.results with
  | some r => if r.entries.isEmpty then s else s.deposit (.results r.raceNumber r.entries)
  | none => s

/-- Build the results list on the referee: deposit CONTROL RESULTS, hand the entries to the Car Table, move to
RESULTS, and raise RESULTS (R116). Where the list changed a car the order is re-evaluated once (R32, R55); R116 does not
place that, and here it stands after the change to RESULTS (DESIGN CHOICE, log 38). -/
def State.publishResults (s : State) : State :=
  let r := s.buildResults
  let t := (s.withFinish { s.finish with results := some r }).depositResults
  let t := t.handResults r.entries
  let t := if t.race.phase = .results then t else t.changePhase t.race.phase .results none
  (t.reevaluateAfter s.cars).raiseResults r

/-- End the race on the acting referee (R100, R116). -/
def State.endRace (s : State) : State :=
  (s.withRace { s.race with graceDeadline := none }).publishResults

/-- Whether an entrant keeps the race from ending (R100): neither BENCHED, nor without a record, nor FINISHED with an
official position, nor RETIRED. -/
def State.keepsOpen (s : State) (e : Entry) : Bool :=
  decide (e.state ≠ .benched) &&
    match s.car? e.station with
    | none => false
    | some c => !(c.state == .retired || (c.state == .finished && c.position.isSome))

/-- Whether the race is on: RACING or FINISHING. -/
def State.raceOn (s : State) : Bool := decide (s.race.phase = .racing) || decide (s.race.phase = .finishing)

/-- Examine the end-of-race condition (R100). -/
def State.examineEnd (s : State) : State :=
  if s.acting && s.raceOn && !s.race.entries.any s.keepsOpen then s.endRace else s

/-! ## Issuing verdicts (R107, R108) -/

/-- The VERDICT notice (R118). -/
def State.raiseVerdict (st position tf : Nat) (marks : Marks) (s : State) : State :=
  s.raise (.verdict st ((s.car? st).bind CarRecord.slot) position (s.elapsedOf tf) marks)

/-- The first verdict of a race moves it to FINISHING with the grace window (R99, R107). "The first verdict of the race" is
one issued in RACING: a successor in RACING whose verdict count is already above 0, after a VERDICT for a station without a
record (R110, R112), moves the race too (DESIGN CHOICE, log 48). -/
def State.firstVerdict (s : State) : State :=
  if s.race.phase = .racing then
    let s := s.changePhase .racing .finishing none
    s.withRace { s.race with graceDeadline := some (s.clock.time + s.race.options.graceWindow) }
  else s

/-- The referee's records at an issue (R107 step 3, R108). -/
def issueTo (e : PendingFinish) (position : Nat) (marks : Marks) (c : CarRecord) : CarRecord :=
  if c.station = e.station then
    { c with position := some position, officialTf := some e.tf, marks := marks, state := .finished }
  else if c.position.isSome && c.officialTf == some e.tf then
    { c with marks := { c.marks with deadHeat := true } }
  else c

/-- Issue a pending finish (R107 steps 1 to 7). -/
def State.issue (e : PendingFinish) (s : State) : State :=
  let position := s.nextPosition
  let marks := s.verdictMarks e
  let count := max s.finish.verdictCount position
  let s := s.withCars (s.cars.map (issueTo e position marks))
  let s := s.withFinish { s.finish with
    verdictCount := count, waiting := s.finish.waiting.filter fun x => x.station ≠ e.station }
  let s := s.deposit (.verdict ⟨s.raceNumber0, e.station, position, e.tf, marks⟩)
  let s := (s.raiseVerdict e.station position e.tf marks).reevaluate
  s.firstVerdict

/-- Whether the head of the pending list is due (R107). -/
def State.headDue (s : State) : Option PendingFinish :=
  match s.finish.waiting with
  | e :: _ => if e.tf + s.race.options.settleWindow ≤ s.clock.time then some e else none
  | [] => none

/-- Issue each head that is due, examining the end of the race after each (R107); at most `n` issues. R106 and R107 name no
phase and no rule empties the list at the end of the race: a finish still pending then stays on it, and outside RACING and
FINISHING none is issued (DESIGN CHOICE, log 43). -/
def State.issueDue : Nat → State → State
  | 0, s => s
  | n + 1, s =>
    if s.acting && s.raceOn then
      match s.headDue with
      | some e => State.issueDue n ((s.issue e).examineEnd)
      | none => s
    else s

/-- Issue every head that is due. -/
def State.issueAllDue (s : State) : State := State.issueDue s.finish.waiting.length s

/-- Issue every entry of the pending list at once, head first (R109); at most `n` issues. -/
def State.issueEvery : Nat → State → State
  | 0, s => s
  | n + 1, s =>
    match s.finish.waiting with
    | e :: _ => State.issueEvery n (s.issue e)
    | [] => s

/-! ## Retirement (R30) -/

/-- Whether a RETIRE decision applies to a record (R30). -/
def CarRecord.retirable (c : CarRecord) : Bool :=
  match c.state with
  | .racing | .silent => true
  | .finished => c.provisionalTf.isSome && c.position.isNone
  | _ => false

/-- A record retired (R30). -/
def CarRecord.retired (reason : RetireReason) (c : CarRecord) : CarRecord :=
  { c.withdrawFinish with state := .retired, retireReason := some reason, silentSince := none }

/-- Apply a RETIRE decision (R30, R48, R105). -/
def State.applyRetire (st : Nat) (reason : RetireReason) (s : State) : State :=
  match s.car? st with
  | some c =>
    if c.retirable then
      ((s.updateCar st (CarRecord.retired reason)).unjudge st
        |>.raise (.carRetired st c.slot reason c.p)).reevaluate
    else s
  | none => s

/-- Retire a car on the referee: R30, CONTROL RETIRE, and the end-of-race condition (R87, R98, R100). -/
def State.refereeRetire (st : Nat) (reason : RetireReason) (s : State) : State :=
  ((s.applyRetire st reason).deposit (.retire s.raceNumber0 st reason)).examineEnd

/-! ## Following a VERDICT (R110, R111) -/

/-- Take a position from any other car that holds it (the conflict row of R111). -/
def losePosition (st position : Nat) (c : CarRecord) : CarRecord :=
  if c.station ≠ st && c.position == some position then
    { c with
      position := none
      officialTf := none
      provisionalTf := c.provisionalTf.or c.officialTf
      marks := { c.marks with deadHeat := false, lateJudged := false } }
  else c

/-- The named car's record as a VERDICT sets it (R110). A position outside 1 to 8 is written as carried (DESIGN CHOICE, log
56). -/
def takeVerdict (v : VerdictFields) (c : CarRecord) : CarRecord :=
  let c := { c with position := some v.position, officialTf := some v.tf, marks := v.marks }
  match c.state with
  | .benched => c
  | _ => { c with state := .finished, retireReason := none, silentSince := none }

/-- The DEAD HEAT mark of a VERDICT on every other car with the same official tf and a position (R110). -/
def shareDeadHeat (v : VerdictFields) (c : CarRecord) : CarRecord :=
  if v.marks.deadHeat && c.station ≠ v.station && c.position.isSome && c.officialTf == some v.tf then
    { c with marks := { c.marks with deadHeat := true } }
  else c

/-- Apply a VERDICT on a follower in RACING or FINISHING (R110, R111). A retry adds its marks, with a re-evaluation where
that changes the record (R55). -/
def State.applyVerdict (v : VerdictFields) (s : State) : State :=
  match s.car? v.station with
  | none => s
  | some c =>
    if c.position = some v.position ∧ c.officialTf = some v.tf then
      (s.updateCar v.station fun c => { c with marks := orMarks c.marks v.marks }).reevaluateAfter s.cars
    else
      let s := s.withCars (s.cars.map fun c =>
        if c.station = v.station then takeVerdict v c else shareDeadHeat v (losePosition v.station v.position c))
      let s := (s.raiseVerdict v.station v.position v.tf v.marks).reevaluate
      if s.race.phase = .racing then s.changePhase .racing .finishing none else s

/-- Raise a follower's verdict count to a value heard (R112). R103 bounds the count by 8, and R202 makes no frame bad whose
count or position lies above 8, or whose position is 0: the value counts as carried, so the count held may then pass 8
(DESIGN CHOICE, log 56). -/
def State.raiseCount (n : Nat) (s : State) : State :=
  s.withFinish { s.finish with verdictCount := max s.finish.verdictCount n }

/-! ## Following RESULTS (R117) -/

/-- The official tf of a results entry: G plus its tf elapsed; a free value while G is absent (log 2). -/
def State.tfOfElapsed (s : State) (e : Nat) : Nat :=
  match s.race.green with
  | some g => g + e
  | none => Config.tfWithoutGreen e

/-- One entry of a RESULTS list reconciled with the records (R117 step 2). -/
def State.reconcile (e : ResultEntry) (s : State) : State :=
  match e.status, e.position with
  | .finished, some p =>
    if (s.car? e.station).isSome then
      s.withCars (s.cars.map fun c =>
        if c.station = e.station then
          { c with position := some p, officialTf := e.tfElapsed.map s.tfOfElapsed, marks := e.marks }
        else losePosition e.station p c)
    else s
  | _, _ =>
    s.updateCar e.station fun c => { c with
      position := none, officialTf := none
      marks := { c.marks with deadHeat := false, lateJudged := false } }

/-- Take a CONTROL RESULTS frame on a follower in RACING, FINISHING or RESULTS (R117). -/
def State.takeResults (r : ResultsList) (s : State) : State :=
  let before := s.finish.results
  let s := s.withFinish { s.finish with results := some r }
  let s := r.entries.foldl (fun s e => s.reconcile e) s
  let s := s.withFinish { s.finish with
    verdictCount := (r.entries.filter fun e => e.status = .finished).length }
  let s := s.handResults r.entries
  let s := if s.race.phase = .results then s else s.changePhase s.race.phase .results none
  let s := s.reevaluate
  if before = some r then s else s.raiseResults r

end Sys2Proof.Machine
end

