-- ==== Sys2Proof/Machine/Referee.lean ====
section
/-! DEFINITION. The referee role's shared operations (R133 to R139, with R78 and R113): leaving the role, starting
to act, and the succession search. -/

namespace Sys2Proof.Machine

/-! ## Leaving ACTING (R138, R139) -/

/-- Race Control and the Finish Judge drop their referee state (R78, R113). -/
def State.dropRefereeState (s : State) : State :=
  let s := s.withRace { s.race with holdTable := [], remainder := none, entryDeadline := none, graceDeadline := none }
  s.withFinish { s.finish with waiting := [] }

/-- Take an unsent BEAT out of its slot; a BEAT in flight completes and is not retried (R138 step 3). -/
def State.dropBeat (s : State) : State :=
  let s := s.withdrawUnsent .beat
  s.withBus { s.bus with inFlight := s.bus.inFlight.map fun fl =>
    if fl.kind = .beat then fl.purge .raceOrNumber else fl }

/-- The role of a station that does not act and waits for no one. -/
def RaceClock.restingRole (c : RaceClock) : Role := if c.eligible then .follower else .ineligible

/-- Leave ACTING (R138 steps 1 to 5), the REFEREE notice naming a referee and a cause (R140). -/
def State.leaveActing (referee : Option Nat) (cause : RefereeCause) (s : State) : State :=
  let s := s.withClock { s.clock with role := s.clock.restingRole, beatTimer := none }
  let s := s.dropBeat.dropRefereeState
  s.raise (.referee s.clock.role referee cause)

/-- Leave ACTING for the loss of the number or of eligibility (R139): the referee becomes absent and the watchdog is
restarted. -/
def State.resignActing (cause : RefereeCause) (s : State) : State :=
  if s.acting then
    let s := s.leaveActing none cause
    (s.withClock { s.clock with referee := none }).restartWatchdog
  else s

/-! ## Starting to act (R136, R78, R113) -/

/-- The part of Race Control's referee state that depends on the phase held (the table of R78). -/
def State.setUpPhase (s : State) : State :=
  let now := s.clock.time
  match s.race.phase with
  | .entry =>
    s.withRace { s.race with entryDeadline := some (now + s.race.options.entryWindow) }
  | .grid =>
    (s.withRace { s.race with green := none, remainder := none }).withHoldTable (freshHoldTable s.race.entries now)
  | .countdown =>
    let s := s.changePhase .countdown .grid none
    let s := (s.withRace { s.race with green := none, remainder := none }).setLights 0
    (s.withHoldTable (freshHoldTable s.race.entries now)).reevaluate
  | .racing => s.withRace { s.race with graceDeadline := none }
  | .finishing => s.withRace { s.race with graceDeadline := some (now + s.race.options.graceWindow) }
  | .detached | .claiming | .lobby | .results =>
    s.withRace { s.race with entryDeadline := none, graceDeadline := none }

/-- Race Control's referee state by the phase held (R78). The hold set is from now on the hold table's (R69, R88),
empty but where the phase brings rows. -/
def State.setUpRace (s : State) : State := (s.withHoldTable []).setUpPhase

/-- Whether a phase is a race phase, ENTRY to RESULTS (R80). -/
def inRace : Phase → Bool
  | .entry | .grid | .countdown | .racing | .finishing | .results => true
  | .detached | .claiming | .lobby => false

/-- The Finish Judge's referee state by the phase held (R113). -/
def State.setUpFinish (s : State) : State :=
  match s.race.phase with
  | .racing | .finishing =>
    let waiting := sortByKey PendingFinish.key (s.cars.filterMap CarRecord.pendingEntry)
    (s.withFinish { s.finish with waiting := waiting }).issueAllDue
  | .results =>
    if s.finish.results.isSome then s else s.publishResults
  | _ => s.withFinish { s.finish with waiting := [] }

/-- Queue a BEAT (R137), with the re-evaluation COAST asks for in RACING and FINISHING (R55). -/
def State.queueBeat (s : State) : State :=
  let s := s.deposit (.beat none)
  if s.raceOn && decide (s.race.options.policy = .coast) then s.reevaluate else s

/-- Start the beat timer with this station's own beat period (R137). -/
def State.restartBeatTimer (s : State) : State :=
  s.withClock { s.clock with beatTimer := some s.clock.beatPeriod }

/-- Become the acting referee under the number `own` (R136). -/
def State.startActing (own : Nat) (s : State) : State :=
  let s := s.withClock { s.clock with
    role := .acting, watchdog := none, referee := some own, candidate := none, followed := none }
  let s := s.setUpRace
  let s := if inRace s.race.phase then s.depositEntries else s
  let s := s.setUpFinish.examineEnd
  let s := s.raise (.referee .acting (some own) .succession)
  s.restartBeatTimer.queueBeat

/-! ## The succession search (R134) -/

/-- Whether an entry may be found by the search: this station's own, or one LIVE, eligible and not the referee
held. An entry no ANNOUNCE has completed counts as eligible (R133). -/
def State.mayReferee (own : Nat) (s : State) (e : DirEntry) : Bool :=
  decide (e.number = own) ||
    (e.live && (e.info.elim true AnnounceFields.eligible) && decide (some e.number ≠ s.clock.referee))

/-- The station the search finds: the lowest-numbered entry that may be found. -/
def State.successor (own : Nat) (s : State) : Nat :=
  ((s.dir.entries.filter (s.mayReferee own)).map DirEntry.number).foldl min own

/-- The succession search of a NUMBERED, eligible station (R134). -/
def State.search (s : State) : State :=
  match s.ownStation with
  | none => s
  | some own =>
    let n := s.successor own
    if n = own then s.startActing own
    else (s.withClock { s.clock with role := .waiting, candidate := some n }).restartWatchdog

end Sys2Proof.Machine
end

