-- ==== Sys2Proof/Machine/Directory.lean ====
section
/-! DEFINITION. The Station Directory's shared operations (R163 to R177): recording a source, liveness and removal,
choosing a wanted number, taking and releasing a number, and duplicates. -/

namespace Sys2Proof.Machine

/-- The STATION notice (R177), with this station's numbering state after the event. -/
def State.raiseStation (event : StationEvent) (n : Nat) (cause : Option StationCause) (s : State) : State :=
  s.raise (.station event n cause s.dir.numbering)

/-! ## Records come and go with entries (R26) -/

/-- A record for a station the directory has come to know: what the entry list says of it in a race phase, else a
new record (R26, R28). -/
def State.freshRecord (st : Nat) (s : State) : CarRecord :=
  match inRace s.race.phase, entryOf s.race.entries st with
  | true, some e => applyEntry s.race.phase e (CarRecord.new st)
  | _, _ => CarRecord.new st

/-- Create the record of a station that has none, with BENCHED where its entry benches it (R31) and one re-evaluation
(R26, R55). -/
def State.createRecord (st : Nat) (s : State) : State :=
  if (s.car? st).isSome then s
  else
    let c := s.freshRecord st
    let t := s.withCars (insertCar c s.cars)
    (if c.state = .benched then t.raise (.benched c.station c.slot) else t).reevaluate

/-- Remove the record of a station, its provisional finish with it, with one re-evaluation (R26, R68, R105). -/
def State.removeRecord (st : Nat) (s : State) : State :=
  if (s.car? st).isSome then
    ((s.withCars (s.cars.filter fun c => c.station ≠ st)).unjudge st).reevaluate
  else s

/-- Replace the directory's entries. -/
def State.withEntries (es : List DirEntry) (s : State) : State := s.withDir { s.dir with entries := es }

/-! ## Claiming (R167) -/

/-- Whether a number is free for a claim: no entry holds it and it is not among the taken marks. -/
def Directory.free (d : Directory) (n : Nat) : Bool := (d.entry? n).isNone && !inSet d.taken n

/-- The lowest free number, if there is one. -/
def Directory.lowestFree (d : Directory) : Option Nat := (List.range 8).find? d.free

/-- Choose a wanted number and deposit a CLAIM for it; with none free, set the claim retry deadline and send
nothing (R167). -/
def State.chooseWanted (s : State) : State :=
  match s.dir.lowestFree with
  | some n =>
    (s.withDir { s.dir with wanted := some n, claimRetry := none }).deposit (.claim s.dir.serial n)
  | none =>
    (s.withDir { s.dir with
      wanted := none, claimRetry := some (s.clock.time + 200 * s.clock.working) }).withdrawUnsent .claim

/-- Choose afresh with the taken marks emptied (R167). -/
def State.chooseAfresh (s : State) : State := (s.withDir { s.dir with taken := 0#8 }).chooseWanted

/-! ## Liveness and removal (R166) -/

/-- Make an entry QUIET with its notice; nothing for an entry already QUIET, nor for the own entry, which is always LIVE
(R135, R163, R166). -/
def State.makeQuiet (st : Nat) (s : State) : State :=
  match s.dir.entry? st with
  | some e =>
    if e.live ∧ s.ownStation ≠ some st then
      (s.withEntries (insertEntry { e with live := false } s.dir.entries)).raiseStation .quiet st none
    else s
  | none => s

/-- Whether an entry other than the own has been unheard for a number of its liveness units. -/
def State.unheardUnits (s : State) (e : DirEntry) (n : Nat) : Bool :=
  decide (s.ownStation ≠ some e.number) && decide (e.lastHeard + n * e.unit ≤ s.clock.time)

/-- Remove an entry and its record, with the notice (R166). -/
def State.removeEntry (st : Nat) (s : State) : State :=
  ((s.withEntries (s.dir.entries.filter fun e => e.number ≠ st)).removeRecord st).raiseStation .removed st none

/-- The search is repeated at once when the candidate's entry has gone (R135): after its REMOVED has been raised (DESIGN
CHOICE, log 59). -/
def State.searchIfCandidateGone (s : State) : State :=
  match s.clock.role, s.clock.candidate with
  | .waiting, some k => if (s.dir.entry? k).isNone then s.search else s
  | _, _ => s

/-- Remove every entry that passed its removal limit during a race, at the moment the phase becomes LOBBY or CLAIMING
(R166). R166 gives no order to several removals of one moment: they go in ascending station number (DESIGN CHOICE, log
52). Nor does R135 place the repeated search among them, where the candidate's entry is one: the search is made once, after
the last removal, so it finds no entry that goes at the same moment, and its REFEREE follows every REMOVED (DESIGN CHOICE,
log 59). -/
def State.removeExpired (s : State) : State :=
  (((s.dir.entries.filter fun e => s.unheardUnits e 200).map DirEntry.number).foldl
    (fun s n => s.removeEntry n) s).searchIfCandidateGone

/-! ## LOBBY -/

/-- Clear the race and move to LOBBY (R70, R73, R166). -/
def State.toLobby (reason : Option LobbyReason) (s : State) : State :=
  (s.clearRace.changePhase s.race.phase .lobby reason).removeExpired

/-! ## Taking and releasing a number (R170, R171) -/

/-- The own entry for a number (R163, R170). R170 does not name its last-heard time and liveness unit: they are the local
race time and the working beat period of the moment (DESIGN CHOICE, log 51). -/
def State.ownEntry (k : Nat) (s : State) : DirEntry :=
  ⟨k, some s.ownInfo, true, s.clock.time, s.clock.working⟩

/-- Become NUMBERED with number `k` (R170). The phase left is CLAIMING (R72), in which each entry is removed as its own
limit is reached (R166, R126), so the change to LOBBY removes none (DEDUCED, log 9). -/
def State.becomeNumbered (k : Nat) (cause : StationCause) (s : State) : State :=
  let s := s.withDir { s.dir with
    numbering := .numbered, number := some k, listenDeadline := none, wanted := none, taken := 0#8, claimRetry := none
    entries := insertEntry (s.ownEntry k) s.dir.entries }
  let s := s.createRecord k
  let s := (s.withCars (s.cars.map CarRecord.renewed)).changePhase s.race.phase .lobby none
  s.announce.raiseStation .numbered k (some cause)

/-- Release the number and enter another numbering state off NUMBERED, in phase CLAIMING (R171, R72, R139, R161). -/
def State.releaseNumber (next : Numbering) (cause : StationCause) (s : State) : State :=
  match s.ownStation with
  | none => s
  | some own =>
    let s := (s.withEntries (s.dir.entries.filter fun e => e.number ≠ own)).removeRecord own
    let s := s.withDir { s.dir with numbering := next, number := if next = .conflict then some own else none }
    let s := s.resignActing .numberLost
    let left := s.race.phase
    let s := s.clearRace.purgeNumber
    let s := (s.withRace { s.race with raceNumber := none }).changePhase left .claiming none
    s.removeExpired.raiseStation .released own (some cause)

/-- Enter LISTENING with a fresh listen deadline of 8 working beat periods (R164, R175). -/
def State.startListening (s : State) : State :=
  s.withDir { s.dir with
    numbering := .listening, listenDeadline := some (s.clock.time + 8 * s.clock.working) }

/-! ## Recording a source (R165) -/

/-- Whether a CLAIM is in its slot and not in flight. -/
def State.claimUnsent (s : State) : Bool := s.bus.outbound.claim.held.isSome && !s.flying .claim

/-- Record a source station as heard (R165), choosing another wanted number when the source holds the one wanted
(R167). -/
def State.recordSource (src : Nat) (s : State) : State :=
  match s.dir.entry? src with
  | some e =>
    let t := s.withEntries
      (insertEntry { e with live := true, lastHeard := s.clock.time, unit := s.clock.working } s.dir.entries)
    if e.live then t else t.raiseStation .live src none
  | none =>
    let t := s.withEntries (insertEntry ⟨src, none, true, s.clock.time, s.clock.working⟩ s.dir.entries)
    let t := (t.createRecord src).raiseStation .joined src none
    if t.dir.numbering = .claiming ∧ t.dir.wanted = some src ∧ t.claimUnsent then t.chooseWanted else t

/-- Complete an entry with what its ANNOUNCE carries (R165). -/
def State.completeEntry (src : Nat) (a : AnnounceFields) (s : State) : State :=
  match s.dir.entry? src with
  | some e => s.withEntries (insertEntry { e with info := some a } s.dir.entries)
  | none => s

/-! ## Duplicates (R172, R173) -/

/-- What a station does about another that announces its number (the table of R173). -/
def duplicateOutcome (pinned : Bool) (serial : Serial) (a : AnnounceFields) : DuplicateOutcome :=
  match pinned, a.pinned with
  | true, false => .kept
  | false, true => .released
  | false, false => if serial.toNat < a.serial.toNat then .kept else .released
  | true, true => .conflict

/-- Compare an ANNOUNCE that bears the own number (R173, R174). -/
def State.compareDuplicate (own : Nat) (a : AnnounceFields) (s : State) : State :=
  if a.serial = s.dir.serial then s
  else
    let outcome := duplicateOutcome s.dir.pin.isSome s.dir.serial a
    let s := s.raise (.duplicate own a.serial a.pinned outcome)
    match outcome with
    | .kept => s.announce
    | .released =>
      (((s.releaseNumber .claiming .duplicate).recordSource own).completeEntry own a).chooseWanted
    | .conflict => (s.releaseNumber .conflict .conflict).announce

/-! ## CLAIM results (R169) and objections (R168) -/

/-- The result of a CLAIM attempt as the Race Bus Controller hands it over (R159). -/
inductive ClaimResult where
  | objected
  | heard
  | unheard (attempts : Nat)
  deriving DecidableEq, Repr

/-- Act on a CLAIM result (R169); a result that arrives after CLAIMING was left is ignored. -/
def State.claimResult (r : ClaimResult) (s : State) : State :=
  match s.dir.numbering, s.dir.wanted with
  | .claiming, some k =>
    match r with
    | .objected => (s.withDir { s.dir with taken := addToSet s.dir.taken k }).chooseWanted
    | .heard => s.becomeNumbered k .claimed
    | .unheard n => if n < 3 then s else s.becomeNumbered k .alone
  | _, _ => s

/-- Whether this station objects to a CLAIM for a number (R168). -/
def State.objects (s : State) (wanted : Nat) : Bool :=
  match s.dir.numbering with
  | .numbered | .conflict => s.dir.number == some wanted
  | .listening => s.dir.pin == some wanted
  | .detached | .claiming => false

end Sys2Proof.Machine
end

