-- ==== Sys2Proof/Machine/Decisions.lean ====
section
/-! DEFINITION. The referee's decisions (R82 to R94, R101): entering and leaving, forming the grid, holds and
benching, the countdown, and abandoning a race. -/

namespace Sys2Proof.Machine

/-! ## Abandonment (R101) -/

/-- How PHASE names the reason of a CONTROL ABORT (R73). -/
def lobbyReasonOf : AbortReason → LobbyReason
  | .requested => .requested
  | .abandoned => .abandoned

/-- End a race on the referee: deposit CONTROL ABORT, clear the race and return to LOBBY (R101). -/
def State.abortRace (reason : AbortReason) (s : State) : State :=
  (s.deposit (.abort s.raceNumber0 reason)).toLobby (some (lobbyReasonOf reason))

/-! ## The countdown (R92 to R94) -/

/-- Whether enough entrants are not BENCHED (R91, R92, R94). -/
def State.fieldMet (s : State) : Bool := decide (s.race.options.minimumField ≤ s.startersCount)

/-- Whether no row is holding. -/
def noneHolding (t : List HoldRow) : Bool := t.all fun r => r.holdStart.isNone

/-- Start the countdown in GRID (R92). -/
def State.startCountdown (s : State) : State :=
  let o := s.race.options
  let s := s.withRace { s.race with green := some (s.clock.time + o.lightsCount * o.lightInterval) }
  (s.changePhase .grid .countdown none).updateLights

/-- Resume a suspended countdown (R94). -/
def State.resumeCountdown (s : State) : State :=
  match s.race.remainder with
  | some r => (s.withRace { s.race with green := some (s.clock.time + r), remainder := none }).updateLights
  | none => s

/-- Start or resume the countdown when the hold set is empty and the field is met (R92, R94). -/
def State.examineHolds (s : State) : State :=
  if noneHolding s.race.holdTable && s.fieldMet then
    match s.race.phase, s.race.green with
    | .grid, _ => s.startCountdown
    | .countdown, none => s.resumeCountdown
    | _, _ => s
  else s

/-- After a bench or a removal in GRID or COUNTDOWN: abandon a race whose field is short, else examine the holds
(R87, R91). -/
def State.afterLoss (s : State) : State :=
  if s.fieldMet then s.examineHolds else s.abortRace .abandoned

/-- Suspend the countdown (R93). -/
def State.suspendCountdown (green : Nat) (s : State) : State :=
  (s.withRace { s.race with remainder := some (green - s.clock.time), green := none }).setLights 0

/-! ## The hold table (R88, R90, R91) -/

/-- The row of an entrant. -/
def rowOf (t : List HoldRow) (st : Nat) : Option HoldRow := t.find? (·.station == st)

/-- Change the row of an entrant. -/
def updateRow (st : Nat) (f : HoldRow → HoldRow) (t : List HoldRow) : List HoldRow :=
  t.map fun r => if r.station = st then f r else r

/-- A row that begins to hold. -/
def HoldRow.take (now : Nat) (r : HoldRow) : HoldRow := { r with holdStart := some now }

/-- How long a hold that begins with a row's cumulative time may last (R91). -/
def holdAllowance (o : Options) (cumulative : Nat) : Nat := min o.singleHold (o.holdBudget - cumulative)

/-- A row that stops holding: its cumulative time grows by the time held, which the bench deadline bounds
(R88, R90, R91). -/
def HoldRow.release (o : Options) (now : Nat) (r : HoldRow) : HoldRow :=
  match r.holdStart with
  | some t => { r with holdStart := none, cumulative := r.cumulative + min (now - t) (holdAllowance o r.cumulative) }
  | none => r

/-- The bench deadline of a row, while it is holding (R91). -/
def benchDeadlineOf (o : Options) (r : HoldRow) : Option Nat :=
  r.holdStart.map fun t => t + holdAllowance o r.cumulative

/-- Whether the commit point of the countdown has been reached: G minus local race time is at most the light
interval (R89, R90). -/
def State.committed (s : State) : Bool :=
  match s.race.green with
  | some g => decide (g ≤ s.clock.time + s.race.options.lightInterval)
  | none => false

/-- Whether a station is an entrant that is not BENCHED. -/
def State.isStarter (s : State) (st : Nat) : Bool :=
  match entryOf s.race.entries st with
  | some e => decide (e.state ≠ .benched)
  | none => false

/-- Apply a wish to hold of an entrant whose row is not holding (R90). -/
def State.enterHold (st : Nat) (s : State) : State :=
  let held := s.withHoldTable (updateRow st (HoldRow.take s.clock.time) s.race.holdTable)
  match s.race.phase, s.race.green with
  | .countdown, some g => if s.committed then s else held.suspendCountdown g
  | _, _ => held

/-- Apply a HOLD STATE wish on the acting referee (R90). -/
def State.applyHold (st : Nat) (holding : Bool) (s : State) : State :=
  if (s.race.phase = .grid ∨ s.race.phase = .countdown) ∧ s.isStarter st then
    match rowOf s.race.holdTable st, holding with
    | some r, true => if r.holdStart.isSome then s else s.enterHold st
    | some r, false =>
      if r.holdStart.isSome then
        (s.withHoldTable
          (updateRow st (HoldRow.release s.race.options s.clock.time) s.race.holdTable)).examineHolds
      else s
    | none, _ => s
  else s

/-- Bench an entrant whose bench deadline is reached (R91). -/
def State.bench (st : Nat) (s : State) : State :=
  let s := s.withHoldTable (updateRow st (HoldRow.release s.race.options s.clock.time) s.race.holdTable)
  let s := s.withRace { s.race with entries := s.race.entries.map fun e =>
    if e.station = st then { e with state := .benched } else e }
  s.handEntries.depositEntries.afterLoss

/-! ## Entering and leaving (R82, R87) -/

/-- Decide an ENTER by the entry list (the table of R82). On a referee that holds no race signature, which R82 does not
consider, every signature differs from it: TRACK MISMATCH (DESIGN CHOICE, log 39). R83 settles enter pending when the list
changes; here it is settled at every ENTER decided, another station's too, also one that changes neither the list nor the
last refusal (DESIGN CHOICE, log 45). -/
def State.decideEnter (st : Nat) (signature : Crc16) (s : State) : State :=
  let r := s.race
  let s :=
    if (entryOf r.entries st).isSome then s
    else if r.trackRef.map TrackRef.signature ≠ some signature then
      s.withRace { r with lastRefusal := some ⟨st, .trackMismatch⟩ }
    else if 8 ≤ r.entries.length then s.withRace { r with lastRefusal := some ⟨st, .full⟩ }
    else (s.withRace { r with entries := r.entries ++ [⟨st, none, .entered⟩] }).handEntries
  s.settleEnter.depositEntries

/-- The entry list without a station, handed to the Car Table (R87, R28). -/
def State.removeEntrant (st : Nat) (s : State) : State :=
  (s.withRace { s.race with entries := s.race.entries.filter fun e => e.station ≠ st }).handEntries

/-- Decide a LEAVE by the phase (the table of R87; R83 for the changed list in ENTRY, the one phase in which enter
pending stands). -/
def State.decideLeave (st : Nat) (s : State) : State :=
  if (entryOf s.race.entries st).isSome then
    match s.race.phase with
    | .entry => ((s.removeEntrant st).settleEnter).depositEntries
    | .grid | .countdown =>
      let s := (s.withHoldTable (s.race.holdTable.filter fun r => r.station ≠ st)).removeEntrant st
      s.depositEntries.afterLoss
    | .racing | .finishing =>
      match (s.car? st).map CarRecord.state with
      | some .racing | some .silent => s.refereeRetire st .withdrawn
      | _ => s
    | _ => s
  else s

/-! ## Forming the grid (R85) -/

/-- The stations of a list, each at its first naming. -/
def firstNamings (acc : List Nat) : List Nat → List Nat
  | [] => acc
  | x :: xs => if acc.contains x then firstNamings acc xs else firstNamings (acc ++ [x]) xs

/-- The entrants in slot order: those named, in list order, then the others in ascending station number (R85). -/
def gridOrder (named : List Nat) (entrants : List Nat) : List Nat :=
  let first := (firstNamings [] named).filter entrants.contains
  first ++ sortByKey (fun (n : Nat) => [(n : Int)]) (entrants.filter fun n => !first.contains n)

/-- Entries GRIDDED with slots counted from `k`. -/
def griddedEntries : Nat → List Nat → List Entry
  | _, [] => []
  | k, st :: rest => ⟨st, some k, .gridded⟩ :: griddedEntries (k + 1) rest

/-- Form the grid (R85) and deposit ENTRIES. The changed list settles enter pending before the phase leaves ENTRY
(R83). -/
def State.formGrid (named : List Nat) (s : State) : State :=
  let es := griddedEntries 1 (gridOrder named (s.race.entries.map Entry.station))
  let s := (s.withRace { s.race with entries := es, entryDeadline := none }).settleEnter
  let s := s.withHoldTable (freshHoldTable es s.clock.time)
  (s.changePhase .entry .grid none).handEntries.depositEntries

end Sys2Proof.Machine
end

