-- ==== Sys2Proof/Machine/Operands.lean ====
section
/-! DEFINITION. The operand forms of the requests and reports: what each clamp makes of a value carried, and
whether it changed it (ADJUSTED). -/

namespace Sys2Proof.Machine

/-! ## Clamps -/

/-- A count brought into a range. -/
def clampNat (lo hi n : Nat) : Nat := max lo (min n hi)

/-- The race speed limits (R34, R39): −5,000 to 20,000. -/
def clampSpeed (v : Int) : Int := max (-5000) (min v 20000)

/-- A lap distance below the track's length; kept as carried without a track (R5, R34). -/
def clampDistance (track : Option Track) (d : Nat) : Nat :=
  match track with
  | some t => if t.L ≤ d then t.L - 1 else d
  | none => d

/-- The report the Car Table takes from a CAR request (R34). -/
def clampedReport (track : Option Track) (f : CarFields) : CarFields :=
  { f with d := clampDistance track f.d, v := clampSpeed f.v, extra := f.extra.take 16 }

/-- A clamped CAR report with its stamp (R35). -/
def stampedReport (f : CarFields) (stamp : Nat) : Report :=
  ⟨stamp, f.d, f.v, f.lateral, f.heading, f.extra⟩

/-- A remote report after the future-stamp clamp of R37 and the clamps of R39. -/
def remoteReport (track : Option Track) (now : Nat) (r : Report) : Report :=
  { r with
    stamp := if now + Config.futureTolerance < r.stamp then now else r.stamp
    d := clampDistance track r.d
    v := clampSpeed r.v
    extra := r.extra.take 16 }

/-! ## SETUP (R188) -/

/-- The pin a pin code names: `none` for a code that is refused. -/
def pinOfCode (code : Nat) : Option (Option Nat) :=
  if code ≤ 7 then some (some code) else if code = 255 then some none else none

/-- The fields of a SETUP as stored, for a pin. -/
def storedSettings (f : SetupFields) (pin : Option Nat) : Settings where
  pin := pin
  eligible := f.eligible != 0
  beatPeriod := clampNat 20 500 f.beatPeriod
  timeout := clampNat 3 16 f.timeout
  latency := clampNat 0 100 f.latency
  label := f.label.take 8

/-- Whether a clamp changed a value of a SETUP. -/
def setupAdjusted (f : SetupFields) : Bool :=
  clampNat 20 500 f.beatPeriod != f.beatPeriod || clampNat 3 16 f.timeout != f.timeout ||
    clampNat 0 100 f.latency != f.latency || decide (8 < f.label.length)

/-! ## TRACK (R2) -/

/-- Strictly rising, each start above the one before it. -/
def risingFrom : Nat → List Nat → Bool
  | _, [] => true
  | a, b :: bs => decide (a < b) && risingFrom b bs

/-- The geometry checks of R2. -/
def trackValid (f : TrackFields) : Bool :=
  decide (10000 ≤ f.L) && decide (f.L ≤ 4000000) && decide (1 ≤ f.S) && decide (f.S ≤ 8) &&
    decide (f.starts.length = f.S) &&
    (match f.starts with
     | [] => false
     | s0 :: rest => decide (s0 = 0) && risingFrom s0 rest) &&
    decide (f.starts.getLastD 0 < f.L)

/-! ## OPEN (R79) -/

/-- An option as taken: its default when absent, else brought into its range. -/
def optionValue (lo hi default : Nat) : Option Nat → Nat
  | none => default
  | some n => clampNat lo hi n

/-- Whether an option's clamp changed it. -/
def optionAdjusted (lo hi : Nat) : Option Nat → Bool
  | none => false
  | some n => clampNat lo hi n != n

/-- The policy a code names; a code that names none is taken as HOLD (R79). -/
def policyOfCode : Option Nat → Policy
  | some 1 => .coast
  | some 2 => .drop
  | _ => .hold

/-- Whether a policy code was taken as HOLD for want of a meaning (R79, R202). -/
def policyAdjusted : Option Nat → Bool
  | none => false
  | some c => decide (2 < c)

/-- The options a taken OPEN puts in force (the table of R79). -/
def openOptions (f : OpenFields) : Options where
  laps := optionValue 1 99 3 f.laps
  policy := policyOfCode f.policy
  silenceLimit := optionValue 500 10000 2000 f.silenceLimit
  retireLimit := optionValue 10000 300000 50000 f.retireLimit
  extrapolationCap := optionValue 0 5000 1000 f.extrapolationCap
  coastCap := optionValue 0 50000 10000 f.coastCap
  settleWindow := optionValue 200 5000 1000 f.settleWindow
  graceWindow := optionValue 50000 1200000 300000 f.graceWindow
  minimumField := optionValue 1 8 2 f.minimumField
  entryWindow := optionValue 20000 600000 200000 f.entryWindow
  lightsCount := optionValue 3 5 5 f.lightsCount
  lightInterval := optionValue 5000 20000 10000 f.lightInterval
  singleHold := optionValue 20000 600000 200000 f.singleHold
  holdBudget := optionValue 20000 1200000 300000 f.holdBudget

/-- Whether any value of an OPEN was changed by its clamp (R79). -/
def openAdjusted (f : OpenFields) : Bool :=
  optionAdjusted 1 99 f.laps || policyAdjusted f.policy || optionAdjusted 500 10000 f.silenceLimit ||
    optionAdjusted 10000 300000 f.retireLimit || optionAdjusted 0 5000 f.extrapolationCap ||
    optionAdjusted 0 50000 f.coastCap || optionAdjusted 200 5000 f.settleWindow ||
    optionAdjusted 50000 1200000 f.graceWindow || optionAdjusted 1 8 f.minimumField ||
    optionAdjusted 20000 600000 f.entryWindow || optionAdjusted 3 5 f.lightsCount ||
    optionAdjusted 5000 20000 f.lightInterval || optionAdjusted 20000 600000 f.singleHold ||
    optionAdjusted 20000 1200000 f.holdBudget

/-! ## TIME FORM (R120 to R122) -/

/-- The time form of an elapsed count (R120). -/
def timeForm (e : Nat) : TimeForm :=
  if 60000000 ≤ e then ⟨99, 59, 999, true⟩
  else ⟨e / 600000, e % 600000 / 10000, e % 10000 / 10, false⟩

/-- The sign (set for minus) and the digits of the gap form (R121). -/
def gapForm (g : Int) : Bool × TimeForm := (decide (g < 0), timeForm g.natAbs)

end Sys2Proof.Machine
end

