-- ==== Sys2Proof/Machine/Progress.lean ====
section
/-! DEFINITION. The progress arithmetic (R6 to R21): boundaries, the delta choice, crossings and their times, laps,
and what applying a report does to a record (R40) and to the part (R10, R35, R37, R64). -/

namespace Sys2Proof.Machine

/-! ## Boundaries (R6, R7) -/

/-- The position of boundary `b` (R6). -/
def Track.position (t : Track) (b : Nat) : Nat := b / t.S * t.L + t.starts.getD (b % t.S) 0

/-- The finish boundary of a race of a number of laps (R6). -/
def Track.finishBoundary (t : Track) (laps : Nat) : Nat := laps * t.S

/-- Whether a boundary is a lap line (R6). -/
def Track.lapLine (t : Track) (b : Nat) : Bool := decide (b % t.S = 0)

/-- The boundaries whose positions lie in (a, c], in increasing index, none above the finish boundary (R7). -/
def Track.boundaries (t : Track) (laps : Nat) (a c : Int) : List Nat :=
  ((List.range (t.finishBoundary laps)).map (· + 1)).filter fun b =>
    decide (a < (t.position b : Int)) && decide ((t.position b : Int) ≤ c)

/-! ## The delta choice (R11, R12) -/

/-- The expected travel of a speed over an elapsed time, clamped to 10 s (R11). -/
def expectedTravel (v : Int) (dt : Nat) : Int := (v * (min dt 100000 : Nat)).tdiv 10000

/-- The value r + n·L nearest to the expected travel, the smaller of two equally near (R12). -/
def deltaChoice (L : Nat) (dPrev d : Nat) (e : Int) : Int :=
  let r := ((d : Int) - dPrev) % L
  r + ceilDiv (2 * (e - r) - L) (2 * L) * L

/-- The movement from one report to the next (R11, R12). -/
def movement (L : Nat) (prev new : Report) : Int :=
  deltaChoice L prev.d new.d (expectedTravel prev.v (new.stamp - prev.stamp))

/-! ## Crossing times (R16, R17) -/

/-- The progress and stamp of a report used to time a crossing. -/
structure ReportPoint where
  p : Int
  stamp : Nat
  deriving DecidableEq, Repr

/-- The crossing time of a boundary position before it is raised to G, and the unconfirmed mark (R16, R17). -/
def rawCrossingTime (limit green : Nat) (prev : Option ReportPoint) (new : ReportPoint) (pos : Int) : Nat × Bool :=
  match prev with
  | none => (new.stamp, true)
  | some a =>
    if pos ≤ a.p then (green, false)
    else if new.stamp = a.stamp then (new.stamp, false)
    else if limit < new.stamp - a.stamp then (new.stamp, true)
    else (a.stamp + (((new.stamp - a.stamp : Nat) : Int) * (pos - a.p) / (new.p - a.p)).toNat, false)

/-- The crossing time of a boundary position, never earlier than G, and the unconfirmed mark (R17). -/
def crossingTime (limit green : Nat) (prev : Option ReportPoint) (new : ReportPoint) (pos : Int) : Nat × Bool :=
  let x := rawCrossingTime limit green prev new pos
  (max x.1 green, x.2)

/-! ## Laps (R18, R19) -/

/-- The lap time of a completed lap (R18). -/
def lapTimeOf (green tc lap : Nat) (lineTime : Option Nat) : Nat :=
  if lap = 1 then tc - green
  else match lineTime with
    | some t => tc - t
    | none => Config.lapTimeWithoutLine tc

/-- A record with a crossing written to it (R15). -/
def CarRecord.cross (b : Nat) (x : Nat × Bool) (c : CarRecord) : CarRecord :=
  { c with crossed := some ⟨b, x.1, x.2⟩ }

/-- A record with a lap completed (R18, R19). -/
def CarRecord.completeLap (lap time tc : Nat) (c : CarRecord) : CarRecord :=
  { c with
    laps := lap
    lineTime := some tc
    lastLap := some time
    bestLap := match c.bestLap with
      | some b => some (min b time)
      | none => some time }

/-! ## Taking the crossings of a report (R10 step 2, R20, R64) -/

/-- What stays the same for all the crossings of one report. -/
structure CrossingContext where
  station : Nat
  track : Track
  green : Nat
  limit : Nat
  prev : Option ReportPoint
  new : ReportPoint
  deriving DecidableEq, Repr

/-- Take one crossing: record it, complete the lap of a lap line, and pass both on, the lap first (R15, R18, R19). -/
def State.takeCrossing (x : CrossingContext) (s : State) (b : Nat) : State :=
  let tc := crossingTime x.limit x.green x.prev x.new (x.track.position b)
  let s := s.updateCar x.station (CarRecord.cross b tc)
  let s :=
    if x.track.lapLine b then
      match s.car? x.station with
      | some c =>
        let lap := b / x.track.S
        let time := lapTimeOf x.green tc.1 lap c.lineTime
        let c := c.completeLap lap time tc.1
        (s.updateCar x.station fun _ => c).lapCompleted c lap time
      | none => s
    else s
  s.withOrder (s.order.cross b tc.1)

/-- The finish a record's last crossing is, when it is of the finish boundary (R20, R104). -/
def State.finishOf (s : State) (x : CrossingContext) : Option PendingFinish :=
  match s.car? x.station with
  | some c =>
    match c.crossed with
    | some k =>
      if k.index = x.track.finishBoundary s.race.options.laps then
        some ⟨c.station, k.time, c.slot, k.unconfirmed⟩
      else none
    | none => none
  | none => none

/-- A provisional finish written to a record (R104). -/
def CarRecord.provisional (e : PendingFinish) (c : CarRecord) : CarRecord :=
  { c with
    state := .finished
    provisionalTf := some e.tf
    marks := { c.marks with unconfirmed := e.unconfirmed } }

/-- Take the crossings of a report and raise Pmax to its progress (R13). The finish, when it is among them, is
written to the record. -/
def State.takeCrossings (x : CrossingContext) (pmax : Int) (s : State) : State :=
  let bs := x.track.boundaries s.race.options.laps pmax x.new.p
  let s := bs.foldl (State.takeCrossing x) s
  let s := s.updateCar x.station fun c => { c with pmax := some x.new.p }
  if bs.contains (x.track.finishBoundary s.race.options.laps) then
    match s.finishOf x with
    | some e => s.updateCar x.station (CarRecord.provisional e)
    | none => s
  else s

/-! ## Applying a report to a record (R8 to R14, R21, R40) -/

/-- The greatest progress a record initialised at its first report starts with (R9). -/
def firstPmax (p : Int) : Int := if p ≤ 0 then p else 0

/-- The progress a report gives a record that has some (R10 step 1), and the point its crossings are timed from;
`none` for a record whose progress is absent. -/
def CarRecord.moved (c : CarRecord) (L : Nat) (r : Report) : Option (Int × ReportPoint) :=
  match c.p, c.report with
  | some p, some prev => some (p + movement L prev r, ⟨p, prev.stamp⟩)
  | _, _ => none

/-- A record with a report stored and its progress brought up to it: moved (R10), or initialised when `start` says
so and it has none (R9). -/
def CarRecord.advance (L : Nat) (start : Bool) (r : Report) (c : CarRecord) : CarRecord :=
  match c.moved L r with
  | some (p, _) => { c with p := some p, report := some r }
  | none =>
    if start then
      let p := startProgress L r.d
      { c with p := some p, pmax := some (firstPmax p), report := some r }
    else { c with report := some r }

/-- Whether a report's stamp is G or later (R13). -/
def sinceGreen (green : Option Nat) (stamp : Nat) : Bool :=
  match green with
  | some g => decide (g ≤ stamp)
  | none => false

/-- The arithmetic of a report for a RACING car while the race is on (R9, R10, R13). While G is absent the rules do not say
whether a report qualifies for crossings: here it moves P, takes no crossing and leaves Pmax (DESIGN CHOICE, log 34). -/
def State.raceReport (t : Track) (st : Nat) (r : Report) (c : CarRecord) (s : State) : State :=
  let prev := (c.moved t.L r).map Prod.snd
  let moved := c.advance t.L true r
  let s := s.updateCar st fun _ => moved
  match s.race.green, moved.p, moved.pmax with
  | some g, some p, some pmax =>
    if g ≤ r.stamp ∧ pmax < p then
      s.takeCrossings ⟨st, t, g, s.race.options.silenceLimit, prev, ⟨p, r.stamp⟩⟩ pmax
    else s
  | _, _, _ => s

/-- A SILENT car heard again (R43 steps 1 to 3). -/
def State.carBack (st : Nat) (r : Report) (c : CarRecord) (s : State) : State :=
  let since := c.silentSince.getD r.stamp
  (s.updateCar st fun c => { c with state := .racing, silentSince := none }).raise
    (.carBack st c.slot (saturate (r.stamp - since)))

/-- Whether a report moves a car's progress, if present, outside RACING and FINISHING: every car but a RETIRED one in
RESULTS, and before it only a car whose state runs the arithmetic (R21, R40). -/
def CarRecord.movesOffRace (phase : Phase) (c : CarRecord) : Bool :=
  match c.state with
  | .racing | .silent | .finished => true
  | .retired => false
  | .idle | .entered | .gridded | .benched => decide (phase = .results)

/-- A report applied to its record by the state held (the table of R40, with R5, R21 and R43). The second component
is false for a report that is discarded. -/
def State.applyReport (st : Nat) (r : Report) (s : State) : State × Bool :=
  match s.car? st with
  | none => (s, false)
  | some c =>
    if c.state = .retired then (s, false)
    else
      match s.track with
      | none =>
        let s := if c.state = .silent ∧ s.raceOn then s.carBack st r c else s
        (s.updateCar st fun c => { c with report := some r }, true)
      | some t =>
        if s.raceOn then
          match c.state with
          | .silent =>
            let s := s.carBack st r c
            (s.raceReport t st r { c with state := .racing, silentSince := none }, true)
          | .racing => (s.raceReport t st r c, true)
          | .finished => (s.updateCar st (CarRecord.advance t.L true r), true)
          | _ => (s.updateCar st fun c => { c with report := some r }, true)
        else if c.movesOffRace s.race.phase then (s.updateCar st (CarRecord.advance t.L false r), true)
        else (s.updateCar st fun c => { c with report := some r }, true)

/-- Whether a car has just received a provisional finish that the referee must judge (R104 step 3). -/
def State.newFinish (s : State) (st : Nat) (before : CarState) : Option PendingFinish :=
  if before = .finished then none else (s.car? st).bind CarRecord.pendingEntry

/-- Take a report (R10, R35 steps 1 and 2, R64): apply it, judge a finish on the referee and issue what is due
(R106, R107), then re-evaluate the running order once. -/
def State.takeReport (st : Nat) (r : Report) (s : State) : State :=
  let before := ((s.car? st).map CarRecord.state).getD .idle
  match s.applyReport st r with
  | (s, false) => s
  | (s, true) =>
    let s :=
      match s.acting, s.newFinish st before with
      | true, some e => (s.judge e).issueAllDue
      | _, _ => s
    s.reevaluate

end Sys2Proof.Machine
end

