-- ==== Sys2Proof/Machine/Clock.lean ====
section
/-! DEFINITION. Following the referee (R74 to R77, R126 to R130): the phase a frame carries, the deadlines a forward
step of the clock passes, and the target of a BEAT. -/

namespace Sys2Proof.Machine

/-! ## The phase a frame carries (R75) -/

/-- The place of a phase in the order of R75; none for the two phases off the order. -/
def phaseRank : Phase → Option Nat
  | .detached | .claiming => none
  | .lobby => some 0
  | .entry => some 1
  | .grid => some 2
  | .countdown => some 3
  | .racing => some 4
  | .finishing => some 5
  | .results => some 6

/-- Arrive in a later phase, taking a green time (the second row of R75). -/
def State.arriveIn (carried : Phase) (green : Option Nat) (s : State) : State :=
  let left := s.race.phase
  match carried with
  | .countdown =>
    ((s.withRace { s.race with green := green }).changePhase left .countdown none).updateLights
  | .racing => (s.withRace { s.race with green := green }).applyGreen .racing
  | .finishing | .results =>
    if left = .racing ∨ left = .finishing then s.changePhase left carried none
    else ((s.withRace { s.race with green := green }).applyGreen carried).changePhase left carried none
  | _ => s.changePhase left carried none

/-- Go back before green after green was applied (R75, R77). -/
def State.backBeforeGreen (carried : Phase) (green : Option Nat) (s : State) : State :=
  let left := s.race.phase
  let s := s.undoGreen
  let s := if carried = .countdown then s.withRace { s.race with green := green } else s
  (s.changePhase left carried none).updateLights

/-- Go back from COUNTDOWN to GRID or ENTRY (R75), with the re-evaluation R55 gives a return to GRID. -/
def State.backFromCountdown (carried : Phase) (s : State) : State :=
  let s := ((s.withRace { s.race with green := none }).setLights 0).changePhase .countdown carried none
  if carried = .grid then s.reevaluate else s

/-- Take a phase carried with the race number held, with the green time it carries (the table of R75). -/
def State.takePhase (carried : Phase) (green : Option Nat) (s : State) : State :=
  let held := s.race.phase
  match phaseRank held, phaseRank carried with
  | some h, some c =>
    if c = h then
      if held = .countdown then (s.withRace { s.race with green := green }).updateLights else s
    else if h < c then s.arriveIn carried green
    else
      match held, carried with
      | _, .lobby => s.toLobby none
      | .racing, .countdown | .finishing, .countdown =>
        if green.isSome ∧ green = s.race.green then s else s.backBeforeGreen .countdown green
      | .racing, _ => s.backBeforeGreen carried green
      | .finishing, .racing => s
      | .finishing, _ => s.backBeforeGreen carried green
      | .results, _ => s
      | .countdown, _ => s.backFromCountdown carried
      | _, _ => s.changePhase held carried none
  | _, _ => s

/-- The phase an ENTRIES frame is taken for: it carries no G, so without a G held it moves the phase no further than
GRID, and a held phase of GRID or later is kept (R75). One that carries GRID or ENTRY in COUNTDOWN meets the table's row
that makes G absent and the text that an ENTRIES does not remove G: here the row applies (DESIGN CHOICE, log 40). -/
def State.takeEntriesPhase (carried : Phase) (s : State) : State :=
  if s.race.green.isNone && decide ((phaseRank .countdown).getD 0 ≤ (phaseRank carried).getD 0) then
    if (phaseRank .grid).getD 0 ≤ (phaseRank s.race.phase).getD 0 then s else s.takePhase .grid none
  else s.takePhase carried s.race.green

/-- Whether this station takes race state from a frame: a follower in LOBBY or a race phase (R74). -/
def State.takesRaceState (s : State) : Bool :=
  !s.acting && (phaseRank s.race.phase).isSome

/-- A race this station has not heard opened (R76 steps 1, 2 and 4). One PHASE is raised. -/
def State.newRace (raceNumber : Option Nat) (carried : Phase) (green : Option Nat) (options : Option (Options × TrackRef))
    (s : State) : State :=
  let left := s.race.phase
  let s := s.clearRace
  let s := s.withRace { s.race with
    raceNumber := raceNumber
    options := (options.map Prod.fst).getD s.race.options
    trackRef := (options.map Prod.snd).or s.race.trackRef
    green := green }
  let s := (s.changePhase left carried none).updateLights
  if carried = .lobby then s.removeExpired else s

/-! ## The race fields of a BEAT -/

/-- HOLD REFUSED when a countdown runs on without the hold this station asked for (R95). -/
def State.checkHold (b : BeatFields) (s : State) : State :=
  match s.ownStation with
  | some own =>
    if b.phase = .countdown ∧ b.green.isSome ∧ s.race.holdAsked ∧ inSet b.holdSet own = false ∧
        s.bus.outbound.holdState = Slot.empty then
      (s.withRace { s.race with holdAsked := false }).raise (.holdRefused s.race.green s.race.lights)
    else s
  | none => s

/-- Ask for the results list in RESULTS with an ANNOUNCE, unless one is waiting or in flight (R117). -/
def State.askForResults (b : BeatFields) (s : State) : State :=
  if s.race.phase = .results ∧ b.phase = .results ∧ s.finish.results = none ∧
      s.bus.outbound.announce = Slot.empty then s.announce
  else s

/-- Race Control and the Finish Judge take the race fields of a BEAT (R74 to R76, R95, R112, R117). A new race number
with a carried phase off the order of R75, which no referee sends, is not taken (DESIGN CHOICE, log 19). -/
def State.takeRaceFields (b : BeatFields) (s : State) : State :=
  if s.takesRaceState then
    if b.raceNumber = s.race.raceNumber then
      let s := s.takePhase b.phase b.green
      let s := s.withRace { s.race with holdSet := b.holdSet }
      ((s.checkHold b).raiseCount b.count).askForResults b
    else if (phaseRank b.phase).isSome then
      let s := s.newRace b.raceNumber b.phase b.green none
      let s := s.withRace { s.race with holdSet := b.holdSet }
      let s := if b.raceNumber.isSome then s.announce else s
      (s.raiseCount b.count).askForResults b
    else s
  else s

/-! ## Deadlines (R126) -/

/-- What is done when a deadline in local race time is reached on a station that follows. -/
inductive Deadline where
  | lights
  | green
  | silent (station : Nat)
  | listen
  | claimRetry
  | quiet (station : Nat)
  | removed (station : Nat)
  deriving DecidableEq, Repr

/-- The race time at which the lights count next changes (R96). Under a light interval of 0, for which R96 gives no such
moment, it is G (DESIGN CHOICE, log 62). -/
def nextLight (o : Options) (green lights : Nat) : Nat := green - (o.lightsCount - lights) * o.lightInterval

/-- The lights and green of a countdown (R96, R97). -/
def State.countdownDeadlines (s : State) : List (Nat × Deadline) :=
  match s.race.phase, s.race.green with
  | .countdown, some g =>
    (if s.race.lights = s.lightsBeforeGreen then [] else [(nextLight s.race.options g s.race.lights, .lights)]) ++
      [(g, .green)]
  | _, _ => []

/-- The silence moments of the RACING cars, one past the reference plus the silence limit (R42). -/
def State.silenceDeadlines (s : State) : List (Nat × Deadline) :=
  if s.raceOn then
    s.cars.filterMap fun c =>
      if c.state = .racing then
        (silenceReference s.race.green c).map fun t => (t + s.race.options.silenceLimit + 1, .silent c.station)
      else none
  else []

/-- The deadlines of the Station Directory (R164, R166, R167). -/
def State.directoryDeadlines (s : State) : List (Nat × Deadline) :=
  let d := s.dir
  let others := d.entries.filter fun e => decide (s.ownStation ≠ some e.number)
  (match d.numbering, d.listenDeadline with
    | .listening, some t => [(t, Deadline.listen)]
    | _, _ => []) ++
  (match d.numbering, d.claimRetry with
    | .claiming, some t => [(t, Deadline.claimRetry)]
    | _, _ => []) ++
  (others.filter DirEntry.live).map (fun e => (e.lastHeard + 8 * e.unit, .quiet e.number)) ++
  (if s.race.phase = .lobby ∨ s.race.phase = .claiming then
    others.map (fun e => (e.lastHeard + 200 * e.unit, .removed e.number)) else [])

/-- The deadline reached first among those due at local race time (R126). -/
def State.nextDue (s : State) : Option (Nat × Deadline) :=
  let due := (s.countdownDeadlines ++ s.silenceDeadlines ++ s.directoryDeadlines).filter
    fun x => decide (x.1 ≤ s.clock.time)
  due.foldl (fun best x =>
    match best with
    | none => some x
    | some y => if x.1 < y.1 then some x else some y) none

/-- A RACING car falls SILENT (R42, R48). -/
def State.fallSilent (st : Nat) (s : State) : State :=
  match s.car? st with
  | some c =>
    ((s.updateCar st fun c => { c with state := .silent, silentSince := some s.clock.time }).raise
      (.carSilent st c.slot c.p)).reevaluate
  | none => s

/-- The end of the listen period (R164). -/
def State.endListening (s : State) : State :=
  let s := s.withDir { s.dir with listenDeadline := none }
  match s.dir.pin with
  | some k => s.becomeNumbered k .pinned
  | none => (s.withDir { s.dir with numbering := .claiming }).chooseWanted

/-- An entry past its removal limit is removed (R166), with the fresh choice of R167 and the search of R135. -/
def State.dropStation (st : Nat) (s : State) : State :=
  let s := s.removeEntry st
  let s := if s.dir.numbering = .claiming then s.chooseAfresh else s
  s.searchIfCandidateGone

/-- What a deadline that is reached does. -/
def State.meet (d : Deadline) (s : State) : State :=
  match d with
  | .lights => s.updateLights
  | .green => s.applyGreen .racing
  | .silent st => s.fallSilent st
  | .listen => s.endListening
  | .claimRetry => s.chooseAfresh
  | .quiet st => s.makeQuiet st
  | .removed st => s.dropStation st

/-- Meet the deadlines a forward step has passed, in increasing order of their values (R126); at most `n` of them. -/
def State.meetDue : Nat → State → State
  | 0, s => s
  | n + 1, s =>
    match s.nextDue with
    | some (_, d) => State.meetDue n (s.meet d)
    | none => s

/-- A bound on the deadlines one step can pass: lights and green, silence of 8 cars, the two of the numbering, QUIET
and removal of 8 entries, each at most twice. -/
def deadlineBound : Nat := 64

/-! ## Following a target (R128, R129) -/

/-- A rebase (R128, R129, R41): the clock set back, every deadline and last-heard time with it. -/
def State.rebase (source target : Nat) (s : State) : State :=
  let before := s.clock.time
  let back := before - target
  let drop := fun (c : CarRecord) =>
    { c with report := c.report.filter fun r => decide (r.stamp ≤ target) }
  let s := { s with
    clock := { s.clock with time := target, holdOff := 0, conflict := false }
    cars := s.cars.map drop
    dir := { s.dir with
      listenDeadline := s.dir.listenDeadline.map (· - back)
      claimRetry := s.dir.claimRetry.map (· - back)
      entries := s.dir.entries.map fun (e : DirEntry) => { e with lastHeard := e.lastHeard - back } }
    race := { s.race with
      entryDeadline := s.race.entryDeadline.map (· - back)
      graceDeadline := s.race.graceDeadline.map (· - back) } }
  s.raise (.clockRebase source before target)

/-- Follow a target (R128). -/
def State.follow (source target : Nat) (s : State) : State :=
  let now := s.clock.time
  if now ≤ target then
    State.meetDue deadlineBound (s.withClock { s.clock with time := target, holdOff := 0, conflict := false })
  else if now - target ≤ Config.holdOffLimit then
    s.withClock { s.clock with holdOff := now - target, conflict := false }
  else if s.race.phase = .claiming ∨ s.race.phase = .lobby then s.rebase source target
  else
    let t := s.withClock { s.clock with conflict := true }
    if s.clock.conflict then t else t.raise (.clockConflict source target now (saturate (now - target)))

/-! ## Taking a BEAT (R127, R130) -/

/-- The followed beat period after a BEAT (R130): measured between two BEATs of one station, absent at a change of
referee. A BEAT of the last BEAT's station while the referee held is another or absent meets both: here the period becomes
absent (DESIGN CHOICE, log 42). -/
def RaceClock.measured (c : RaceClock) (source : Nat) : Option Nat :=
  if c.referee ≠ some source then none
  else match c.lastBeat with
    | some l => if l.station = source then some (max 20 (min (c.ticks - l.tick) 500)) else c.followed
    | none => c.followed

/-- Steps 3 to 6 of taking a BEAT (R127). -/
def State.noteBeat (source : Nat) (s : State) : State :=
  let c := s.clock
  (s.withClock { c with
    followed := c.measured source
    lastBeat := some ⟨source, c.ticks⟩
    referee := some source
    role := if c.role = .waiting then .follower else c.role
    candidate := if c.role = .waiting then none else c.candidate }).restartWatchdog

/-- The re-evaluation COAST asks for at a BEAT in RACING and FINISHING (R55). -/
def State.coastOrder (s : State) : State :=
  if s.raceOn && decide (s.race.options.policy = .coast) then s.reevaluate else s

/-- Steps 3 to 7 of taking a BEAT. R55 does not place COAST's re-evaluation against step 7: here it follows the race
fields, and looks at the phase and the policy then held (DESIGN CHOICE, log 38). -/
def State.finishBeat (source : Nat) (b : BeatFields) (s : State) : State :=
  ((s.noteBeat source).takeRaceFields b).coastOrder

/-- An ACTING station yields to a lower number (R138 steps 1 to 5). -/
def State.yieldTo (source : Nat) (s : State) : State := s.leaveActing (some source) .yield

/-- Take a BEAT on a station that does not act (R127). Where a deadline passed by the step made this station act, the
BEAT is met as an acting station meets it (DEDUCED, log 20). Where the step passed the listen deadline and numbered this
station with the BEAT's own source number, steps 3 to 7 are taken all the same (DESIGN CHOICE, log 46). -/
def State.takeBeat (source : Nat) (b : BeatFields) (s : State) : State :=
  let t := s.follow source (b.time + s.clock.latency)
  match t.acting, t.ownStation with
  | true, some own => if source < own then (t.yieldTo source).finishBeat source b else t
  | _, _ => t.finishBeat source b

/-- Deal with a BEAT by its source and this station's role (the table of R127). -/
def State.hearBeat (source : Nat) (b : BeatFields) (s : State) : State :=
  if s.acting then
    match s.ownStation with
    | some own => if source < own then (s.yieldTo source).takeBeat source b else s
    | none => s
  else s.takeBeat source b

end Sys2Proof.Machine
end

