-- ==== Sys2Proof/Machine/Taking.lean ====
section
/-! DEFINITION. Taking a request (R184): for each request the answer its owner returns (R186) and what it does to
the part. The journey of a request along the link is in Link. -/

namespace Sys2Proof.Machine

/-- A result with the body that follows it (R186). -/
structure Answer where
  result : ResultCode
  body : ReplyBody
  deriving DecidableEq, Repr

/-- A refusal: the result code alone, and no state changed (R186). -/
def refuse (r : ResultCode) (s : State) : Answer × State := (⟨r, .empty⟩, s)

/-- DONE without a body. -/
def done (s : State) : Answer × State := (⟨.done, .empty⟩, s)

/-- DONE, or ADJUSTED when a value was clamped. -/
def doneOr (adjusted : Bool) : ResultCode := if adjusted then .adjusted else .done

/-! ## SETUP (R188, R189, R133, R175) -/

/-- The six SETUP fields as stored. -/
def State.settings (s : State) : Settings :=
  ⟨s.dir.pin, s.clock.eligible, s.clock.beatPeriod, s.clock.timeout, s.clock.latency, s.dir.label⟩

/-- Store the six SETUP fields in their blocks (R189). -/
def State.storeSettings (x : Settings) (s : State) : State :=
  (s.withDir { s.dir with pin := x.pin, label := x.label }).withClock { s.clock with
    eligible := x.eligible, beatPeriod := x.beatPeriod, timeout := x.timeout, latency := x.latency }

/-- The role after a change of referee eligible (R133). -/
def State.changeEligibility (s : State) : State :=
  if s.clock.eligible then
    if s.clock.role = .ineligible then
      let t := s.withClock { s.clock with role := .follower }
      if s.dir.numbering = .detached then t else t.restartWatchdog
    else s
  else if s.acting then s.resignActing .eligibility
  else s.withClock { s.clock with role := .ineligible, candidate := none }

/-- Whether a pin names another number than the one held (R175). -/
def State.pinMoves (s : State) (pin : Option Nat) : Bool := pin.isSome && pin != s.dir.number

/-- The own directory entry brought up to what this station announces (R175). -/
def State.refreshOwnEntry (s : State) : State :=
  match s.ownStation with
  | some own => s.completeEntry own s.ownInfo
  | none => s

/-- A SETUP taken in LOBBY acts on the numbering, then on the role, then announces (R189). -/
def State.applySetup (old new : Settings) (s : State) : State :=
  let moves := s.pinMoves new.pin
  let t := if moves then (s.releaseNumber .listening .pin).startListening else s
  let t := if old.eligible = new.eligible then t else t.changeEligibility
  if moves then t
  else if old.pin = new.pin ∧ old.eligible = new.eligible ∧ old.label = new.label then t
  else t.refreshOwnEntry.announce

/-- Take a SETUP (R188, R189). In DETACHED the role still follows eligible (R133). -/
def State.takeSetup (f : SetupFields) (s : State) : Answer × State :=
  if s.race.phase ≠ .detached ∧ s.race.phase ≠ .lobby then refuse .refusedState s
  else match pinOfCode f.pin with
    | none => refuse .badValue s
    | some pin =>
      let new := storedSettings f pin
      let t := s.storeSettings new
      let t :=
        if s.race.phase = .lobby then t.applySetup s.settings new
        else if s.clock.eligible = new.eligible then t else t.changeEligibility
      (⟨doneOr (setupAdjusted f), .setup new⟩, t)

/-! ## TRACK (R2, R3, R4) -/

/-- Take a TRACK (R2, R3). -/
def State.takeTrack (f : TrackFields) (s : State) : Answer × State :=
  if s.race.phase ≠ .detached ∧ s.race.phase ≠ .lobby then refuse .refusedState s
  else if !trackValid f then refuse .badValue s
  else
    let sig := trackSignature f
    let t := s.withTrack (some ⟨f.id, f.L, f.S, f.starts, sig⟩)
    (⟨.done, .track sig⟩, if s.race.phase = .lobby then t.withCars (t.cars.map (CarRecord.onNewTrack f.L)) else t)

/-! ## ATTACH and DETACH (R164, R200) -/

/-- ATTACH at the Race Bus Controller (R143, R200): OFF becomes BUSY, at once or when the frame in flight ends. -/
def BusController.attach (b : BusController) : BusController :=
  if b.leaving ≠ .no then { b with leaving := .toBusy }
  else if b.line = .off then { b with line := .busy }
  else b

/-- Take an ATTACH (R164, R124, R72). -/
def State.takeAttach (s : State) : Answer × State :=
  if s.dir.numbering ≠ .detached then refuse .refusedState s
  else
    let t := (s.withBus s.bus.attach).withClock { s.clock with conflict := false }
    done (t.restartWatchdog.startListening.changePhase s.race.phase .claiming none)

/-- Leave the line (R162): at the end of an own frame on it, else at once. -/
def BusController.detach (b : BusController) : BusController :=
  if b.sends then { b with leaving := .toOff } else { b with line := .off, leaving := .no }

/-- DETACH at the Race Clock (R200 step 2, R124, R139). -/
def State.detachClock (s : State) : State :=
  let s := if s.acting then s.leaveActing none .detach else s
  s.withClock { s.clock with
    role := s.clock.restingRole, followed := none, lastBeat := none, referee := none, candidate := none,
    watchdog := none, beatTimer := none, conflict := false }

/-- DETACH at the Station Directory (R200 step 4, R163, R26). -/
def State.detachDirectory (s : State) : State :=
  let t := (s.withDir { s.dir with
    numbering := .detached, number := none, listenDeadline := none, wanted := none, taken := 0#8,
    claimRetry := none, entries := [], slots := [] }).withCars []
  match s.ownStation with
  | some own => t.raiseStation .released own (some .detach)
  | none => t

/-- Take a DETACH (R200). The receiver stands as it was (R200); where a DETACH that waited is taken while a later frame is
being received, R179's HUNT after a DETACH is not made (DESIGN CHOICE, log 44). -/
def State.takeDetach (s : State) : Answer × State :=
  if s.dir.numbering = .detached then done s
  else
    let left := s.race.phase
    let s := (s.withBus s.bus.detach).purgeDetach.detachClock.clearRaceQuietly
    let s := (s.withRace { s.race with raceNumber := none }).changePhase left .detached none
    done s.detachDirectory

/-! ## Entering, leaving and holding (R81, R86, R89) -/

/-- Take an ENTER (R81). -/
def State.takeEnter (s : State) : Answer × State :=
  if s.race.phase ≠ .entry then refuse .refusedState s
  else match s.track with
    | none => refuse .trackMismatch s
    | some t =>
      let s := s.withRace { s.race with enterPending := true }
      match s.acting, s.ownStation with
      | true, some own => done (s.decideEnter own t.signature)
      | _, _ => done (s.deposit (.enter s.raceNumber0 t.signature))

/-- Whether the own car's state admits a LEAVE (R86). -/
def CarRecord.mayLeave (c : CarRecord) : Bool :=
  match c.state with
  | .entered | .gridded | .racing | .silent => true
  | .idle | .finished | .retired | .benched => false

/-- Take a LEAVE (R86). -/
def State.takeLeave (s : State) : Answer × State :=
  if s.ownCar?.any CarRecord.mayLeave then
    let s := s.withRace { s.race with enterPending := false, holdAsked := false }
    match s.acting, s.ownStation with
    | true, some own => done (s.decideLeave own)
    | _, _ => done (s.deposit (.leave s.raceNumber0))
  else refuse .refusedState s

/-- Whether HOLD and READY are taken (R89). -/
def State.mayHold (s : State) : Bool :=
  (decide (s.race.phase = .grid) || decide (s.race.phase = .countdown)) &&
    s.ownCar?.any fun c => c.state == .gridded

/-- Pass a taken HOLD or READY on: applied at once on the acting referee, sent as HOLD STATE elsewhere (R89). -/
def State.wish (holding : Bool) (s : State) : State :=
  let s := s.withRace { s.race with holdAsked := holding }
  match s.acting, s.ownStation with
  | true, some own => s.applyHold own holding
  | _, _ => s.deposit (.holdState s.raceNumber0 holding)

/-- Take a READY (R89). -/
def State.takeReady (s : State) : Answer × State :=
  if s.mayHold then done (s.wish false) else refuse .refusedState s

/-- Take a HOLD (R89). -/
def State.takeHold (s : State) : Answer × State :=
  if s.mayHold then
    if s.race.phase = .countdown ∧ s.committed then refuse .tooLate s else done (s.wish true)
  else refuse .refusedState s

/-! ## CAR (R34 to R36) -/

/-- Whether the own report is deposited for the bus, by the state the own car is left in (R35 step 3). -/
def CarRecord.reports (c : CarRecord) : Bool :=
  match c.state with
  | .entered | .gridded | .racing | .silent | .finished => true
  | .idle | .retired | .benched => false

/-- Take a CAR (R34 to R36). -/
def State.takeCar (f : CarFields) (s : State) : Answer × State :=
  match s.ownStation, s.ownCar? with
  | some own, some _ =>
    let clamped := clampedReport s.track f
    let r := stampedReport clamped s.clock.time
    let s := s.takeReport own r
    let sent := s.ownCar?.any CarRecord.reports
    let t := if sent then s.deposit (.report s.raceNumber0 r) else s
    let laps := (s.ownCar?.map CarRecord.laps).getD 0
    (⟨doneOr (clamped != f), .car (s.placeInOrder own) laps sent⟩, t)
  | _, _ => refuse .refusedState s

/-! ## The referee's requests (R79, R85, R101, R102) -/

/-- The race number OPEN advances to (R71). -/
def nextRaceNumber : Option Nat → Nat
  | none => 1
  | some n => if 255 ≤ n then 1 else n + 1

/-- Whether the track an OPEN names is the loaded one (R79). -/
def State.trackIs (s : State) (id : Nat) (sig : Crc16) : Bool :=
  s.track.any fun t => decide (t.id = id) && decide (t.signature = sig)

/-- The steps of a taken OPEN (R79). -/
def State.openRace (f : OpenFields) (s : State) : State :=
  let left := s.race.phase
  let s := if left = .results then s.clearRace else s
  let o := openOptions f
  let s := s.withRace { s.race with
    raceNumber := some (nextRaceNumber s.race.raceNumber), options := o, trackRef := some ⟨f.trackId, f.signature⟩ }
  let s := s.changePhase left .entry none
  (s.withRace { s.race with entryDeadline := some (s.clock.time + o.entryWindow) }).depositRaceSetup

/-- Take an OPEN (R79). -/
def State.takeOpen (f : OpenFields) (s : State) : Answer × State :=
  if !s.acting then refuse .refusedRole s
  else if s.race.phase ≠ .lobby ∧ s.race.phase ≠ .results then refuse .refusedState s
  else if !s.trackIs f.trackId f.signature then refuse .trackMismatch s
  else (⟨doneOr (openAdjusted f), .openRace (nextRaceNumber s.race.raceNumber)⟩, s.openRace f)

/-- Take a FORM GRID (R85). -/
def State.takeFormGrid (named : List Nat) (s : State) : Answer × State :=
  if !s.acting then refuse .refusedRole s
  else if s.race.phase ≠ .entry then refuse .refusedState s
  else if 8 < named.length || named.any (fun st => decide (7 < st)) then refuse .badValue s
  else if s.race.entries.length < s.race.options.minimumField then refuse .fieldShort s
  else done (s.formGrid named)

/-- Whether a phase lies from ENTRY to FINISHING (R101). -/
def abortable : Phase → Bool
  | .entry | .grid | .countdown | .racing | .finishing => true
  | .detached | .claiming | .lobby | .results => false

/-- Take an ABORT (R101). -/
def State.takeAbort (s : State) : Answer × State :=
  if !s.acting then refuse .refusedRole s
  else if !abortable s.race.phase then refuse .refusedState s
  else done (s.abortRace .requested)

/-- Take a CLOSE (R102). -/
def State.takeClose (s : State) : Answer × State :=
  if !s.acting then refuse .refusedRole s
  else if s.race.phase ≠ .results then refuse .refusedState s
  else done (s.toLobby (some .closed))

/-! ## The questions (R46, R65, R119, R192, R122) -/

/-- The station a car name stands for: `none` for a name out of range, `some none` for an unmapped slot (R46). -/
def State.named (s : State) : CarName → Option (Option Nat)
  | .station n => if n ≤ 7 then some (some n) else none
  | .slot k => if 1 ≤ k ∧ k ≤ 8 then some ((s.dir.slots.find? (·.slot == k)).map SlotEntry.station) else none

/-- The reply to ASK CAR for a record (R47). -/
def State.carReply (s : State) (c : CarRecord) : CarReply :=
  ⟨s.clock.time, c, extrapolated s c, s.placeInOrder c.station, s.gapOf c⟩

/-- Take an ASK CAR (R46, R47). -/
def State.takeAskCar (n : CarName) (s : State) : Answer × State :=
  match s.named n with
  | none => refuse .badValue s
  | some st =>
    match st.bind s.car? with
    | some c => (⟨.done, .askCar (s.carReply c)⟩, s)
    | none => refuse .noSuchCar s

/-- One line of the reply to ASK ORDER (R65). -/
def State.orderLine (s : State) (c : CarRecord) (position : Nat) : OrderLine where
  position := position
  station := c.station
  slot := c.slot
  state := c.state
  laps := c.laps
  crossed := c.crossed.map Crossing.index
  crossedUnconfirmed := c.crossed.any Crossing.unconfirmed
  gap := s.gapOf c
  bestLap := c.bestLap
  official := c.position
  marks := c.marks
  finishTime := c.officialTf.or c.provisionalTf

/-- The reply to ASK ORDER (R65). -/
def State.orderReply (s : State) : OrderReply where
  time := s.clock.time
  phase := s.race.phase
  raceNumber := s.race.raceNumber
  incomplete := s.orderIncomplete
  leading := s.order.leading
  fastest := s.order.fastest
  cars := s.order.order.zipIdx.filterMap fun x => (s.car? x.1).map fun c => s.orderLine c (x.2 + 1)

/-- Take an ASK ORDER (R65). -/
def State.takeAskOrder (s : State) : Answer × State := (⟨.done, .askOrder s.orderReply⟩, s)

/-- The reply to ASK RESULTS (R119). -/
def State.resultsReply (s : State) : ResultsReply where
  time := s.clock.time
  phase := s.race.phase
  raceNumber := s.race.raceNumber
  list := s.finish.results.map fun r =>
    (r.raceNumber, r.entries.map fun e => ⟨e, e.tfElapsed.map timeForm⟩)

/-- Take an ASK RESULTS (R119). -/
def State.takeAskResults (s : State) : Answer × State := (⟨.done, .askResults s.resultsReply⟩, s)

/-- The reply to ASK STATUS (R192). -/
def State.statusReply (s : State) : StatusReply where
  serial := s.dir.serial
  settings := s.settings
  straps := s.straps
  numbering := s.dir.numbering
  number := s.dir.number
  entryCount := s.dir.entries.length
  liveCount := (s.dir.entries.filter DirEntry.live).length
  stations := s.dir.entries.map fun e => ⟨e.number, e.live, e.info⟩
  time := s.clock.time
  holdOff := s.clock.holdOff
  followed := s.clock.followed
  conflict := s.clock.conflict
  role := s.clock.role
  referee := s.clock.referee
  phase := s.race.phase
  raceNumber := s.race.raceNumber
  track := s.track.map fun t => (t.id, t.L, t.S, t.signature)
  line := s.bus.line
  receiveErrors := s.bus.receiveErrors
  droppedReports := s.bus.droppedReports
  superseded := s.bus.superseded
  noticesWaiting := s.notices.list.length
  noticesDropped := s.notices.dropped

/-- Take an ASK STATUS (R192): the two counts are cleared after the reply is built. -/
def State.takeAskStatus (clear : Bool) (s : State) : Answer × State :=
  (⟨.done, .askStatus s.statusReply⟩,
    if clear then s.withBus { s.bus with receiveErrors := 0, droppedReports := 0 } else s)

/-- Take a TIME FORM (R122). -/
def State.takeTimeForm (v : TimeValue) (s : State) : Answer × State :=
  match v with
  | .elapsed e => (⟨doneOr (timeForm e).saturated, .timeForm false (timeForm e)⟩, s)
  | .gap g => (⟨doneOr (gapForm g).2.saturated, .timeForm (gapForm g).1 (gapForm g).2⟩, s)
  | .otherKind _ => refuse .badValue s

/-! ## FETCH (R196, R197) -/

/-- Remove up to 8 notices; an OVERFLOW is appended when some were removed and some had been dropped. -/
def NoticeQueue.fetch (now : Nat) (q : NoticeQueue) : NoticeQueue :=
  let rest := q.list.drop 8
  if q.list.isEmpty ∨ q.dropped = 0 then { q with list := rest }
  else ⟨rest ++ [⟨now, .overflow q.dropped⟩], 0⟩

/-- Take a FETCH (R196, R197). -/
def State.takeFetch (s : State) : Answer × State :=
  let q := s.notices.fetch s.clock.time
  (⟨.done, .fetch (s.notices.list.take 8) q.list.length⟩, s.withNotices q)

end Sys2Proof.Machine
end

