-- ==== Sys2Proof/Machine/Link.lean ====
section
/-! DEFINITION. The Cabinet Link Port (R178 to R187): the receiver, the request queue with its owed OVERRUN replies,
and when a request is taken. -/

namespace Sys2Proof.Machine

/-! ## Forms (R183) -/

/-- Take a form: its value by `f`, and BAD VALUE for a payload of no form the request allows. -/
def takeForm {α : Type} (f : α → State → Answer × State) (p : Form α) (s : State) : Answer × State :=
  match p with
  | .form a => f a s
  | .malformed _ => refuse .badValue s

/-- Whether a request is a RESTART. -/
def isRestart : Request → Bool
  | .restart _ => true
  | _ => false

/-- Hand a request to the block that owns it (R184). A RESTART is not taken here: it is performed (R187). -/
def takeRequest (r : Request) (s : State) : Answer × State :=
  match r with
  | .setup p => takeForm State.takeSetup p s
  | .track p => takeForm State.takeTrack p s
  | .attach p => takeForm (fun _ => State.takeAttach) p s
  | .detach p => takeForm (fun _ => State.takeDetach) p s
  | .restart p => takeForm (fun _ => done) p s
  | .enter p => takeForm (fun _ => State.takeEnter) p s
  | .leave p => takeForm (fun _ => State.takeLeave) p s
  | .ready p => takeForm (fun _ => State.takeReady) p s
  | .hold p => takeForm (fun _ => State.takeHold) p s
  | .car p => takeForm State.takeCar p s
  | .openRace p => takeForm State.takeOpen p s
  | .formGrid p => takeForm State.takeFormGrid p s
  | .abort p => takeForm (fun _ => State.takeAbort) p s
  | .close p => takeForm (fun _ => State.takeClose) p s
  | .askCar p => takeForm State.takeAskCar p s
  | .askOrder p => takeForm (fun _ => State.takeAskOrder) p s
  | .askResults p => takeForm (fun _ => State.takeAskResults) p s
  | .askStatus p => takeForm State.takeAskStatus p s
  | .timeForm p => takeForm State.takeTimeForm p s
  | .fetch p => takeForm (fun _ => State.takeFetch) p s

/-- The reply an answer makes, under the request's kind plus 0x80 (R186). -/
def requestReply (r : Request) (a : Answer) : Reply := .answer (requestKind r + 0x80#8) a.result a.body

/-! ## The receiver (R179 to R182) -/

/-- Set the receiver; its stall timer starts or restarts with each character (R181). -/
def State.withReceiver (r : Receiver) (s : State) : State :=
  s.withLink { s.link with receiver := r, stall := 0 }

/-- The receiver after one good character (the table of R179, R180 for SKIP). `none` where the character ends a frame
or breaks it: a check byte, or a length byte above 120. -/
def Receiver.next (r : Receiver) (c : Byte) : Option Receiver :=
  match r with
  | .hunt => some (if c = 0x5A#8 then .length else .hunt)
  | .length => if c.toNat ≤ 120 then some (.kind [c] c.toNat) else none
  | .kind got left => some (if left = 0 then .check (got ++ [c]) else .payload (got ++ [c]) left)
  | .payload got left => some (if left ≤ 1 then .check (got ++ [c]) else .payload (got ++ [c]) (left - 1))
  | .check _ => none
  | .skip left => some (if left ≤ 1 then .hunt else .skip (left - 1))

/-- The receiver after several good characters. -/
def Receiver.feed (r : Receiver) : List Byte → Option Receiver
  | [] => some r
  | c :: cs => (r.next c).bind fun r => Receiver.feed r cs

/-- Whether the receiver is inside a frame: LENGTH, KIND, PAYLOAD or CHECK. -/
def Receiver.inFrame : Receiver → Bool
  | .length | .kind _ _ | .payload _ _ | .check _ => true
  | .hunt | .skip _ => false

/-- The kind byte the receiver has taken, if one has arrived. -/
def Receiver.kindByte : Receiver → Option Byte
  | .payload got _ | .check got => got[1]?
  | .hunt | .length | .kind _ _ | .skip _ => none

/-! ## The request queue (R184, R185) -/

/-- Replace the request queue. -/
def State.withQueue (q : List QueueEntry) (s : State) : State := s.withLink { s.link with queue := q }

/-- An OVERRUN owed to the newest entry; nothing once its count stands at 255 (R185). -/
def oweLast (kind : Option Byte) : List QueueEntry → List QueueEntry
  | [] => []
  | [e] => [if e.owed.length < 255 then { e with owed := e.owed ++ [kind] } else e]
  | e :: rest => e :: oweLast kind rest

/-- Whether the queue is full (R184). -/
def State.queueFull (s : State) : Bool := decide (Config.requestCapacity ≤ s.link.queue.length)

/-- Whether an entry waits to be taken: a RESTART not yet performed, or a request behind one (R187). -/
def QueueEntry.waits (e : QueueEntry) : Bool := e.reply.isNone

/-- Append an entry. -/
def State.enqueue (e : QueueEntry) (s : State) : State := s.withQueue (s.link.queue ++ [e])

/-- A complete good frame of a known kind (R183 to R185, R187): answered OVERRUN when the queue is full, BAD VALUE when
its payload has no form, queued untaken for a RESTART or behind one, and taken at once otherwise. The receiver is back
in HUNT. -/
def State.arriveWhole (r : Request) (s : State) : State :=
  let s := s.withReceiver .hunt
  if s.queueFull then s.withQueue (oweLast (some (requestKind r)) s.link.queue)
  else if requestBad r then s.enqueue ⟨none, some (requestReply r ⟨.badValue, .empty⟩), false, []⟩
  else if isRestart r || s.link.queue.any QueueEntry.waits then s.enqueue ⟨some r, none, false, []⟩
  else
    let x := takeRequest r s
    x.2.enqueue ⟨some r, some (requestReply r x.1), false, []⟩

/-- A LINK ERROR takes its place in reply order, as an OVERRUN when the queue is full (R179 to R183, R185). The
receiver is left in the state given. -/
def State.linkError (code : LinkErrorCode) (kind : Option Byte) (after : Receiver) (s : State) : State :=
  let s := s.withReceiver after
  if s.queueFull then s.withQueue (oweLast kind s.link.queue)
  else s.enqueue ⟨none, some (.linkError code kind), false, []⟩

/-! ## Characters received (R179 to R183) -/

/-- A frame complete with its check byte, from the length, kind and payload taken (R179, R183): broken with CHECK,
answered UNKNOWN KIND, or handed on as the request it spells. -/
def State.completeFrame (got : List Byte) (check : Byte) (s : State) : State :=
  let kind := got.getD 1 0#8
  if check = crc8 got then
    match readRequest kind (got.drop 2) with
    | some r => s.arriveWhole r
    | none => s.linkError .unknownKind (some kind) .hunt
  else s.linkError .check (some kind) .hunt

/-- One good character received (the table of R179, with R180 for a length byte above 120). -/
def State.receive (s : State) (c : Byte) : State :=
  match s.link.receiver.next c with
  | some r => s.withReceiver r
  | none =>
    match s.link.receiver with
    | .check got => s.completeFrame got c
    | _ => s.linkError .length none (.skip (c.toNat + 2))

/-- Good characters received one after another. -/
def State.receiveAll (cs : List Byte) (s : State) : State := cs.foldl State.receive s

/-- The characters of one frame, whose whole effect in HUNT is `whole`. A receiver that is inside an earlier frame or in
SKIP takes them by count, as it takes any characters (R179, R180). -/
def State.frameReceived (cs : List Byte) (whole : State → State) (s : State) : State :=
  if s.link.receiver = .hunt then whole s else s.receiveAll cs

/-- A request's frame arrives at the link (R179, R183). -/
def State.arrive (r : Request) (s : State) : State := s.frameReceived (requestCharacters r) (State.arriveWhole r)

/-- Take the waiting requests in arrival order, up to the next RESTART (R187). -/
def takeWaiting : List QueueEntry → State → List QueueEntry × State
  | [], s => ([], s)
  | e :: rest, s =>
    match e.request, e.reply with
    | some r, none =>
      if isRestart r then (e :: rest, s)
      else
        let x := takeRequest r s
        let y := takeWaiting rest x.2
        ({ e with reply := some (requestReply r x.1) } :: y.1, y.2)
    | _, _ =>
      let y := takeWaiting rest s
      (e :: y.1, y.2)

/-- After the reply of a performed RESTART, the waiting requests are taken (R187). -/
def State.resumeQueue (s : State) : State :=
  let x := takeWaiting s.link.queue s
  x.2.withQueue x.1

/-- The LINK ERROR OVERRUN reply of one unit owed: the code OVERRUN, whatever the fault of a broken frame was, and the kind
byte that was received, if any (R185, R186). -/
def overrunReply (kind : Option Byte) : Reply := .linkError .overrun kind

/-- The replies an entry still has to send, in their order: its own, unless it has been sent, then one LINK ERROR OVERRUN for
each unit owed with it (R185). There are none while its own reply is not built. -/
def QueueEntry.replies (e : QueueEntry) : List Reply :=
  match e.reply with
  | none => []
  | some r => (if e.sent then [] else [r]) ++ e.owed.map overrunReply

/-- The reply being sent on TXD: the next one of the entry at the head of the queue (R184, R185). -/
def CabinetLink.sending (l : CabinetLink) : Option Reply := l.queue.head?.bind fun e => e.replies.head?

/-- An entry whose own reply has been sent: it leaves when no OVERRUN is owed with it (R184, R185). -/
def sentOwn (e : QueueEntry) (rest : List QueueEntry) : List QueueEntry :=
  if e.owed.isEmpty then rest else { e with sent := true } :: rest

/-- An entry one of whose owed OVERRUN replies has been sent. -/
def sentOwed (e : QueueEntry) (rest : List QueueEntry) : List QueueEntry :=
  if e.owed.length ≤ 1 then rest else { e with owed := e.owed.drop 1 } :: rest

/-- The reply being sent ends (R184, R185, R187). Where none is being sent nothing ends. -/
def State.endReply (s : State) : State :=
  match s.link.sending, s.link.queue with
  | some _, e :: rest =>
    if e.sent then s.withQueue (sentOwed e rest)
    else
      let t := s.withQueue (sentOwn e rest)
      if e.request.any isRestart then t.resumeQueue else t
  | _, _ => s

end Sys2Proof.Machine
end

