-- ==== Sys2Proof/Machine/Resets.lean ====
section
/-! DEFINITION. The meanings of the three ways back to the power-on values: a RESTART performed, power, and the RESET
pin (R187, R198, R199). A RESTART that meets an own frame on the line returns when the frame ends (R162). -/

namespace Sys2Proof.Machine

/-- The power-on values with what a RESTART keeps (R187, R199): the serial, the straps, the six SETUP fields, the
track, and the link's receiver and later entries. The role follows eligible (R124). -/
def State.restarted (queue : List QueueEntry) (s : State) : State :=
  let t := (State.powerOn s.dir.serial s.straps s.pending).storeSettings s.settings
  let t := t.withClock { t.clock with role := t.clock.restingRole }
  (t.withTrack s.track).withLink { s.link with queue := queue }

/-- Perform the RESTART at the head of the queue: the part returns to its power-on values, the one PHASE notice is
queued, and the RESTART's reply is built (R187, R199). -/
def State.performRestart (e : QueueEntry) (r : Request) (rest : List QueueEntry) (s : State) : State :=
  let answered := { e with reply := some (requestReply r ⟨.done, .empty⟩) }
  (s.restarted (answered :: rest)).raise (.phase .detached s.race.phase none none)

/-- The RESTART that stands untaken at the head of the request queue, every earlier reply sent (R187). -/
def State.waitingRestart (s : State) : Option (QueueEntry × Request) :=
  match s.link.queue.head? with
  | some e =>
    match e.request, e.reply with
    | some r, none => if isRestart r then some (e, r) else none
    | _, _ => none
  | none => none

/-- The return of the RESTART at the head of the queue; nothing where none stands there. -/
def State.finishRestart (s : State) : State :=
  match s.waitingRestart with
  | some (e, r) => s.performRestart e r s.link.queue.tail
  | none => s

/-- A RESTART met by an own frame on the line: the Outbound Table is purged, and the return waits for the frame's end
(R161, R162, R199). -/
def State.leaveForRestart (s : State) : State :=
  let t := s.purgeDetach
  t.withBus { t.bus with leaving := .toRestart }

/-- RESTART PERFORMED (R199): the turn of the RESTART at the head of the queue. The controller leaves the line first: at
the end of an own frame on it, else at once. With no RESTART waiting there the step changes nothing. -/
def execRestartPerformed (s : State) : Host.Outcome State Fault Refusal :=
  .next (if s.waitingRestart.isSome && s.bus.sends then s.leaveForRestart else s.finishRestart)

/-- POWER ON (R198): every block at its power-on values, with the serial of the fuses and the straps sampled. -/
def execPowerOn (straps : Straps) (s : State) : Host.Outcome State Fault Refusal :=
  .next (State.powerOn s.dir.serial straps s.pending)

/-- RESET PIN (R198): low, then high again; the straps are those last sampled while it was low. -/
def execResetPin (straps : Straps) (s : State) : Host.Outcome State Fault Refusal :=
  .next (State.powerOn s.dir.serial straps s.pending)

end Sys2Proof.Machine
end

