-- ==== Sys2Proof/Machine/BusEvents.lean ====
section
/-! DEFINITION. The meanings of the Race Bus Controller's events: starting a frame, the ends of an attempt, idle, the
stuck line and bad frames (R144 to R160). An event that the line state does not admit changes nothing (log 12). -/

namespace Sys2Proof.Machine

/-! ## Shared -/

/-- The line state an own frame leaves behind (R143, R144, R162, R199, R200): the given one, or where the controller was
leaving the line OFF, and BUSY past it where an ATTACH has been taken since. -/
def BusController.landed (l : LineState) (b : BusController) : BusController :=
  match b.leaving with
  | .no => { b with line := l }
  | .toOff | .toRestart => { b with line := .off, leaving := .no }
  | .toBusy => { b with line := .busy, leaving := .no }

/-- Leave an own frame behind in a line state; a RESTART that waited for its end makes its return now (R199). -/
def State.land (l : LineState) (s : State) : State :=
  let t := s.withBus (s.bus.landed l)
  if s.bus.leaving = .toRestart then t.finishRestart else t

/-- Whether this station may take a frame that another station sends (R143, R144): the line is idle, or receiving. -/
def State.receives (s : State) : Bool := decide (s.bus.line = .idle) || decide (s.bus.line = .receiving)

/-- The contents a frame is sent with: a BEAT's are formed now (R137, R147). -/
def State.formed (s : State) (f : Frame) : Frame :=
  match f with
  | .beat _ => .beat (some s.beatContents)
  | other => other

/-- The source station of an attempt's arbitration character: this station's number, and all bits 1 for a CLAIM
(R147). -/
def State.sendingStation (s : State) (f : Frame) : Nat :=
  match f with
  | .claim _ _ => 7
  | _ => s.dir.number.getD 7

/-- The attempts a CLAIM in flight has made once this one has ended. -/
def State.claimAttempts (s : State) : Nat := s.flightAttempts .claim + 1

/-- Hand a CLAIM's result to the Station Directory, unless the CLAIM was purged for a DETACH (R159, R161). -/
def State.handClaim (fl : Flight) (r : ClaimResult) (s : State) : State :=
  if fl.kind = .claim ∧ fl.purged ≠ some .detach then s.claimResult r else s

/-- An attempt that ends without acknowledgement (R158, R159): a CLAIM's result is UNHEARD. -/
def State.failAttempt (fl : Flight) (s : State) : State :=
  (s.endFlight .failed).handClaim fl (.unheard s.claimAttempts)

/-- A mismatch makes a NUMBERED station suspect a duplicate, and announce (R150, R172); not for a CLAIM, nor for a
purged frame, whose end has no further effect (R161). -/
def State.suspect (fl : Flight) (s : State) : State :=
  if s.ownStation.isSome ∧ fl.kind ≠ .claim ∧ fl.purged = none then s.announce else s

/-! ## The commands -/

/-- FRAME START (R148, R149): from IDLE, with the frame of lowest class that may contend. `won` says that its whole
arbitration part has read as sent. -/
def execFrameStart (won : Bool) (s : State) : Host.Outcome State Fault Refusal :=
  .next (match s.contender with
    | some f =>
      if s.bus.line = .idle ∧ s.bus.leaving = .no then
        s.withBus { s.bus with
          line := if won then .sending else .arbitrating
          inFlight := some ⟨f.kind, s.sendingStation f, s.formed f, none⟩ }
      else s
    | none => s)

/-- ARBITRATION LOST (R149): the frame stays pending, and the station receives the winner's. -/
def execArbitrationLost (s : State) : Host.Outcome State Fault Refusal :=
  .next (if s.bus.sends && decide (s.bus.line = .arbitrating) then (s.endFlight .lost).land .receiving else s)

/-- MISMATCH (R150): the attempt ends unacknowledged, the line state becomes BUSY, and the directory is told. -/
def execMismatch (s : State) : Host.Outcome State Fault Refusal :=
  .next (match s.bus.inFlight with
    | some fl => if s.bus.sends then ((s.failAttempt fl).land .busy).suspect fl else s
    | none => s)

/-- The end of a frame's last slot, as the sender reads it (R154, R158, R159). -/
def State.slotsRead (fl : Flight) (acknowledged objected : Bool) (s : State) : State :=
  if fl.kind = .claim ∧ objected then (s.endFlight .heard).handClaim fl .objected
  else if acknowledged then (s.endFlight .heard).handClaim fl .heard
  else s.failAttempt fl

/-- ATTEMPT END (R158, R159): heard, unheard or objected to; then the line is BUSY (R144). -/
def execAttemptEnd (acknowledged objected : Bool) (s : State) : Host.Outcome State Fault Refusal :=
  .next (match s.bus.inFlight with
    | some fl => if s.bus.sends then (s.slotsRead fl acknowledged objected).land .busy else s
    | none => s)

/-- LINE IDLE (R144): 12 recessive bit-times in BUSY. -/
def execLineIdle (s : State) : Host.Outcome State Fault Refusal :=
  .next (if s.bus.line = .busy then s.withBus { s.bus with line := .idle } else s)

/-- The line found stuck (R145): the attempt of a frame in SENDING is ended, a frame in ARBITRATING stays pending. A
controller that was leaving the line has left it (R162). BUS STUCK names the own frame in SENDING also where a purge met it
in flight, or where it is a BEAT that a yield has dropped: R160 names the frame whose attempt the stuck line ended, while
R161 and R138 give such a frame's end no further effect (DESIGN CHOICE, log 57). -/
def State.stuck (s : State) : State :=
  let ended := if s.bus.line = .sending then s.bus.inFlight else none
  let t := match ended with
    | some fl => s.failAttempt fl
    | none => s.endFlight .lost
  if s.bus.leaving ≠ .no then t.land .off
  else
    (t.withBus { t.bus with line := .stuck, stuckTicks := 0 }).raise
      (.busStuck (ended.map Flight.kind) (ended.bind fun fl => fl.frame.subkind))

/-- BUS STUCK (R145, R160): a dominant run of more than 20 bit-times, in any line state but OFF and STUCK. -/
def execBusStuck (s : State) : Host.Outcome State Fault Refusal :=
  .next (if s.bus.line = .off ∨ s.bus.line = .stuck then s else s.stuck)

/-- BUS CLEAR (R146, R160): 12 recessive bit-times in STUCK. -/
def execBusClear (s : State) : Host.Outcome State Fault Refusal :=
  .next (if s.bus.line = .stuck then
      (s.withBus { s.bus with line := .idle, stuckTicks := 0 }).raise (.busClear (saturate s.bus.stuckTicks))
    else s)

/-- Whether a fault makes a frame bad (R152): characters that spell a good frame are no fault. -/
def faultIsBad : FrameFault → Bool
  | .stopBitDominant | .startBitMissing => true
  | .characters cs => (receivedFrame cs).isNone

/-- BAD FRAME (R152): not acknowledged, not handed on, and counted up to 255. -/
def execBadFrame (fault : FrameFault) (s : State) : Host.Outcome State Fault Refusal :=
  .next (if s.receives && faultIsBad fault then
      s.withBus { s.bus with
        line := .busy, acknowledged := false, objected := false, receiveErrors := min (s.bus.receiveErrors + 1) 255 }
    else s)

end Sys2Proof.Machine
end

