-- ==== Sys2Proof/Machine/Frames.lean ====
section
/-! DEFINITION. The meanings of the good frames of the race bus: what every station does with one (R152, R153), and
what the owner of its kind does. -/

namespace Sys2Proof.Machine

/-! ## Handing a frame on (R153, R172, R174) -/

/-- A good frame taken on the line: acknowledged, with the objection slot driven or not, and the line BUSY after its
last slot (R144, R152, R154). -/
def State.acknowledge (object : Bool) (s : State) : State :=
  s.withBus { s.bus with line := .busy, acknowledged := true, objected := object }

/-- Whether a race-bound frame is of the race held (R71, R153 step 2). -/
def State.ofRace (s : State) (n : Nat) : Bool := s.race.raceNumber == some n

/-- Hand a good frame of a source station on: a frame that bears the own number goes to `duplicate`, one that bears
the disputed number nowhere, and any other is recorded and delivered (R153, R165, R172, R174). -/
def State.handOn (source : Nat) (duplicate deliver : State → State) (s : State) : State :=
  if s.receives then
    let t := s.acknowledge false
    if t.dir.number = some source then
      match t.dir.numbering with
      | .numbered => duplicate t
      | _ => t
    else deliver (t.recordSource source)
  else s

/-- Hand on a frame that is not an ANNOUNCE; a duplicate of the own number is answered with one (R172). -/
def State.handFrame (source : Nat) (deliver : State → State) (s : State) : State :=
  s.handOn source State.announce deliver

/-- Hand on a race-bound frame, discarded when it is of another race (R153 step 2). -/
def State.handRaceFrame (source n : Nat) (deliver : State → State) (s : State) : State :=
  s.handFrame source fun t => if t.ofRace n then deliver t else t

/-- A race number as a frame carries it: 0 is absent (R202). -/
def heldNumber (n : Nat) : Option Nat := if n = 0 then none else some n

/-! ## BEAT, VERDICT and HOLD STATE -/

/-- BEAT (R127). -/
def execBeat (source : Nat) (b : BeatFields) (s : State) : Host.Outcome State Fault Refusal :=
  .next (s.handFrame source fun t => t.hearBeat source b)

/-- A VERDICT at the Finish Judge (R110, R112). -/
def State.takeVerdictFrame (v : VerdictFields) (s : State) : State :=
  if s.acting then s
  else
    match s.race.phase with
    | .racing | .finishing => (s.applyVerdict v).raiseCount v.position
    | .results => s
    | _ => s.raiseCount v.position

/-- VERDICT (R110). -/
def execVerdict (source : Nat) (v : VerdictFields) (s : State) : Host.Outcome State Fault Refusal :=
  .next (s.handRaceFrame source v.raceNumber fun t => t.takeVerdictFrame v)

/-- HOLD STATE (R90): applied only while ACTING. -/
def execHoldState (source raceNumber : Nat) (holding : Bool) (s : State) : Host.Outcome State Fault Refusal :=
  .next (s.handRaceFrame source raceNumber fun t => if t.acting then t.applyHold source holding else t)

/-! ## CONTROL -/

/-- A RACE SETUP at Race Control of a follower (R74 to R76): the options replace those held, then the phase is
taken. A new race number with a carried phase off the order of R75 is not taken (log 19). -/
def State.takeRaceSetup (r : RaceSetupFields) (s : State) : State :=
  if s.takesRaceState then
    if heldNumber r.raceNumber = s.race.raceNumber then
      (s.withRace { s.race with options := r.options, trackRef := some r.trackRef }).takePhase r.phase r.green
    else if (phaseRank r.phase).isSome then
      s.newRace (heldNumber r.raceNumber) r.phase r.green (some (r.options, r.trackRef))
    else s
  else s

/-- RACE SETUP (R74, R76). It is not race-bound (R147). -/
def execRaceSetup (source : Nat) (r : RaceSetupFields) (s : State) : Host.Outcome State Fault Refusal :=
  .next (s.handFrame source fun t => t.takeRaceSetup r)

/-- An ENTRIES at Race Control of a follower (R75, R28, R83). -/
def State.takeEntries (e : EntriesFields) (s : State) : State :=
  if s.takesRaceState then
    let t := s.takeEntriesPhase e.phase
    ((t.withRace { t.race with entries := e.entries, lastRefusal := e.refusal }).handEntries).settleEnter
  else s

/-- ENTRIES (R28, R74). -/
def execEntries (source : Nat) (e : EntriesFields) (s : State) : Host.Outcome State Fault Refusal :=
  .next (s.handRaceFrame source e.raceNumber fun t => t.takeEntries e)

/-- A RETIRE at Race Control of a follower (R30): while the race is on, for in RESULTS no car is retired (R100). -/
def State.takeRetire (st : Nat) (reason : RetireReason) (s : State) : State :=
  if s.takesRaceState && s.raceOn then s.applyRetire st reason else s

/-- RETIRE (R30). -/
def execRetire (source raceNumber station : Nat) (reason : RetireReason) (s : State) :
    Host.Outcome State Fault Refusal :=
  .next (s.handRaceFrame source raceNumber fun t => t.takeRetire station reason)

/-- A RESULTS at the Finish Judge: taken by a station that is not acting in RACING, FINISHING or RESULTS (R117). -/
def State.takeResultsFrame (n : Nat) (list : List ResultEntry) (s : State) : State :=
  if s.acting then s
  else if s.raceOn || decide (s.race.phase = .results) then s.takeResults ⟨n, list⟩
  else s

/-- RESULTS (R117). -/
def execResults (source raceNumber : Nat) (list : List ResultEntry) (s : State) :
    Host.Outcome State Fault Refusal :=
  .next (s.handRaceFrame source raceNumber fun t => t.takeResultsFrame raceNumber list)

/-- An ABORT at Race Control of a follower in a race phase (R101). -/
def State.takeAbortFrame (reason : AbortReason) (s : State) : State :=
  if s.takesRaceState && inRace s.race.phase then s.toLobby (some (lobbyReasonOf reason)) else s

/-- CONTROL ABORT (R101). -/
def execControlAbort (source raceNumber : Nat) (reason : AbortReason) (s : State) :
    Host.Outcome State Fault Refusal :=
  .next (s.handRaceFrame source raceNumber fun t => t.takeAbortFrame reason)

/-! ## ENTRY -/

/-- ENTRY ENTER (R82): decided only while ACTING, in ENTRY. -/
def execEntryEnter (source raceNumber : Nat) (signature : Crc16) (s : State) : Host.Outcome State Fault Refusal :=
  .next (s.handRaceFrame source raceNumber fun t =>
    if t.acting && decide (t.race.phase = .entry) then t.decideEnter source signature else t)

/-- ENTRY LEAVE (R87): decided only while ACTING. -/
def execEntryLeave (source raceNumber : Nat) (s : State) : Host.Outcome State Fault Refusal :=
  .next (s.handRaceFrame source raceNumber fun t => if t.acting then t.decideLeave source else t)

/-! ## REPORT (R37 to R39) -/

/-- Whether a remote report is stale: stamped at or before the last report of its record (R38). -/
def staleFor (r : Report) (c : CarRecord) : Bool := c.report.any fun l => decide (r.stamp ≤ l.stamp)

/-- A remote report at the Car Table: clamped, discarded when stale, and taken otherwise (R37 to R40). -/
def State.takeRemote (source : Nat) (r : Report) (s : State) : State :=
  let r := remoteReport s.track s.clock.time r
  if (s.car? source).any (staleFor r) then s else s.takeReport source r

/-- REPORT (R37). -/
def execReport (source raceNumber : Nat) (r : Report) (s : State) : Host.Outcome State Fault Refusal :=
  .next (s.handRaceFrame source raceNumber fun t => t.takeRemote source r)

/-! ## ANNOUNCE and CLAIM -/

/-- What an ANNOUNCE draws from the acting referee of a race: RACE SETUP, ENTRIES, and in RESULTS the list (R80,
R116). -/
def State.answerAnnounce (s : State) : State :=
  if s.acting && inRace s.race.phase then
    let t := s.depositRaceSetup.depositEntries
    if t.race.phase = .results then t.depositResults else t
  else s

/-- ANNOUNCE (R165, R173, R80, R116). -/
def execAnnounce (source : Nat) (a : AnnounceFields) (s : State) : Host.Outcome State Fault Refusal :=
  .next (s.handOn source (fun t => t.compareDuplicate source a) fun t => (t.completeEntry source a).answerAnnounce)

/-- CLAIM (R168, R154): acknowledged, and objected to when the number is this station's. It is recorded nowhere. The
claimant's serial plays no part. -/
def execClaim (_serial : Serial) (wanted : Nat) (s : State) : Host.Outcome State Fault Refusal :=
  .next (if s.receives then s.acknowledge (s.objects wanted) else s)

end Sys2Proof.Machine
end

