-- ==== Sys2Proof/Machine/LinkEvents.lean ====
section
/-! DEFINITION. The meanings of the link's own events: frames of no known kind, broken frames, stalls, and the end of
a reply (R179 to R185). A command whose operands are not faulty as its row says changes nothing (log 12). -/

namespace Sys2Proof.Machine

/-- UNKNOWN KIND (R183): a good frame whose kind names no request. -/
def execUnknownKind (f : UnknownFrame) (s : State) : Host.Outcome State Fault Refusal :=
  .next (if f.payload.length ≤ 120 ∧ requestKinds.contains f.kind = false then
      s.frameReceived (linkFrame f.kind f.payload) fun s => s.linkError .unknownKind (some f.kind) .hunt
    else s)

/-- LINK CHECK ERROR (R179): a complete frame whose check byte differs from the CRC-8 of what it carries. -/
def execLinkCheckError (kind : Byte) (payload : List Byte) (check : Byte) (s : State) :
    Host.Outcome State Fault Refusal :=
  .next (if payload.length ≤ 120 ∧ check ≠ linkCheck kind payload then
      s.frameReceived (0x5A#8 :: byte payload.length :: kind :: (payload ++ [check])) fun s =>
        s.linkError .check (some kind) .hunt
    else s)

/-- A character with a framing fault (R182, R180): discarded in HUNT, counted in SKIP, and the frame broken anywhere
else. -/
def State.framingFault (s : State) : State :=
  if s.link.receiver.inFrame then s.linkError .check s.link.receiver.kindByte .hunt else s.receive 0x00#8

/-- LINK FRAMING FAULT (R182): good characters from the receiver's present state on, then a faulty one. -/
def execLinkFramingFault (chars : List Byte) (s : State) : Host.Outcome State Fault Refusal :=
  .next (s.receiveAll chars).framingFault

/-- LINK LENGTH ERROR (R180): a sync byte and a length byte above 120; the receiver skips the stated length plus 2
characters. -/
def execLinkLengthError (length : Byte) (s : State) : Host.Outcome State Fault Refusal :=
  .next (if 120 < length.toNat then
      s.frameReceived [0x5A#8, length] fun s => s.linkError .length none (.skip (length.toNat + 2))
    else s)

/-- The stall timer runs out (R181): a frame is broken TIMEOUT, a SKIP ends silently. -/
def State.stall (s : State) : State :=
  if s.link.receiver.inFrame then s.linkError .timeout s.link.receiver.kindByte .hunt else s.withReceiver .hunt

/-- LINK STALL TIMEOUT (R181): good characters from the receiver's present state on, then 5 ms without one. With no
character given, the stall timer itself must have run its 50 ticks (log 7). -/
def execLinkStallTimeout (chars : List Byte) (s : State) : Host.Outcome State Fault Refusal :=
  .next (if chars.isEmpty && decide (s.link.stall < Config.stallTicks) then s else (s.receiveAll chars).stall)

/-- REPLY SENT (R184, R185, R187): the last character of the reply being sent has gone out. -/
def execReplySent (s : State) : Host.Outcome State Fault Refusal := .next s.endReply

end Sys2Proof.Machine
end

