-- ==== Sys2Proof/Machine/Requests.lean ====
section
/-! DEFINITION. The meanings of the 20 host requests: each arrives at the link (R183, R184), which takes it at once,
queues it behind a RESTART, or answers for it. What a taken request does is in Taking. -/

namespace Sys2Proof.Machine

/-- SETUP (R188, R189). -/
def execSetup (p : Form SetupFields) (s : State) : Host.Outcome State Fault Refusal := .next (s.arrive (.setup p))

/-- TRACK (R2 to R4). -/
def execTrack (p : Form TrackFields) (s : State) : Host.Outcome State Fault Refusal := .next (s.arrive (.track p))

/-- ATTACH (R164). -/
def execAttach (p : Form Unit) (s : State) : Host.Outcome State Fault Refusal := .next (s.arrive (.attach p))

/-- DETACH (R200). -/
def execDetach (p : Form Unit) (s : State) : Host.Outcome State Fault Refusal := .next (s.arrive (.detach p))

/-- RESTART (R187): queued, and performed when its turn in reply order comes. -/
def execRestart (p : Form Unit) (s : State) : Host.Outcome State Fault Refusal := .next (s.arrive (.restart p))

/-- ENTER (R81). -/
def execEnter (p : Form Unit) (s : State) : Host.Outcome State Fault Refusal := .next (s.arrive (.enter p))

/-- LEAVE (R86). -/
def execLeave (p : Form Unit) (s : State) : Host.Outcome State Fault Refusal := .next (s.arrive (.leave p))

/-- READY (R89). -/
def execReady (p : Form Unit) (s : State) : Host.Outcome State Fault Refusal := .next (s.arrive (.ready p))

/-- HOLD (R89). -/
def execHold (p : Form Unit) (s : State) : Host.Outcome State Fault Refusal := .next (s.arrive (.hold p))

/-- CAR (R34 to R36, R190). -/
def execCar (p : Form CarFields) (s : State) : Host.Outcome State Fault Refusal := .next (s.arrive (.car p))

/-- OPEN (R79). -/
def execOpenRace (p : Form OpenFields) (s : State) : Host.Outcome State Fault Refusal := .next (s.arrive (.openRace p))

/-- FORM GRID (R85). -/
def execFormGrid (p : Form (List Nat)) (s : State) : Host.Outcome State Fault Refusal := .next (s.arrive (.formGrid p))

/-- ABORT (R101). -/
def execAbort (p : Form Unit) (s : State) : Host.Outcome State Fault Refusal := .next (s.arrive (.abort p))

/-- CLOSE (R102). -/
def execClose (p : Form Unit) (s : State) : Host.Outcome State Fault Refusal := .next (s.arrive (.close p))

/-- ASK CAR (R46, R47). -/
def execAskCar (p : Form CarName) (s : State) : Host.Outcome State Fault Refusal := .next (s.arrive (.askCar p))

/-- ASK ORDER (R65). -/
def execAskOrder (p : Form Unit) (s : State) : Host.Outcome State Fault Refusal := .next (s.arrive (.askOrder p))

/-- ASK RESULTS (R119). -/
def execAskResults (p : Form Unit) (s : State) : Host.Outcome State Fault Refusal := .next (s.arrive (.askResults p))

/-- ASK STATUS (R192). -/
def execAskStatus (p : Form Bool) (s : State) : Host.Outcome State Fault Refusal := .next (s.arrive (.askStatus p))

/-- TIME FORM (R122). -/
def execTimeForm (p : Form TimeValue) (s : State) : Host.Outcome State Fault Refusal := .next (s.arrive (.timeForm p))

/-- FETCH (R196, R197). -/
def execFetch (p : Form Unit) (s : State) : Host.Outcome State Fault Refusal := .next (s.arrive (.fetch p))

end Sys2Proof.Machine
end

