-- ==== Sys2Proof/Machine/TimeEvents.lean ====
section
/-! DEFINITION. The meanings of the events of time: the deadlines in local race time, the two tick timers, and the
tick itself. A deadline's event changes nothing before the deadline is reached (R126; log 10). -/

namespace Sys2Proof.Machine

/-- Whether a deadline has been reached at local race time. -/
def State.reached (s : State) : Option Nat → Bool
  | some t => decide (t ≤ s.clock.time)
  | none => false

/-- GREEN (R97): in COUNTDOWN, local race time has reached G. -/
def execGreen (s : State) : Host.Outcome State Fault Refusal :=
  .next (if s.race.phase = .countdown ∧ s.reached s.race.green then s.applyGreen .racing else s)

/-- LIGHTS (R96): the lights count of a countdown is brought up to date. -/
def execLights (s : State) : Host.Outcome State Fault Refusal :=
  .next (match s.race.phase, s.race.green with
    | .countdown, some _ => s.updateLights
    | _, _ => s)

/-- CAR SILENT (R42): a RACING car unheard for more than the silence limit, while the race is on. -/
def execCarSilent (station : Nat) (s : State) : Host.Outcome State Fault Refusal :=
  .next (match s.car? station with
    | some c =>
      if s.raceOn ∧ c.state = .racing ∧ s.unheardPast c s.race.options.silenceLimit then s.fallSilent station else s
    | none => s)

/-- RETIRE LIMIT (R98): on the acting referee, a RACING or SILENT car unheard for more than the retire limit. -/
def execRetireLimit (station : Nat) (s : State) : Host.Outcome State Fault Refusal :=
  .next (match s.car? station with
    | some c =>
      if s.acting ∧ s.raceOn ∧ (c.state = .racing ∨ c.state = .silent) ∧
          s.unheardPast c s.race.options.retireLimit then
        s.refereeRetire station .silence
      else s
    | none => s)

/-- BENCH DEADLINE (R91): on the acting referee in GRID or COUNTDOWN, an entrant holding to its bench deadline. -/
def execBenchDeadline (station : Nat) (s : State) : Host.Outcome State Fault Refusal :=
  .next (match rowOf s.race.holdTable station with
    | some r =>
      if s.acting ∧ (s.race.phase = .grid ∨ s.race.phase = .countdown) ∧
          s.reached (benchDeadlineOf s.race.options r) then
        s.bench station
      else s
    | none => s)

/-- What the end of the entry window brings (R84): the grid, or abandonment. -/
def State.closeEntry (s : State) : State :=
  let s := s.withRace { s.race with entryDeadline := none }
  if s.race.options.minimumField ≤ s.race.entries.length then s.formGrid [] else s.abortRace .abandoned

/-- ENTRY WINDOW (R84): on the acting referee in ENTRY, at the entry-window deadline. -/
def execEntryWindow (s : State) : Host.Outcome State Fault Refusal :=
  .next (if s.acting ∧ s.race.phase = .entry ∧ s.reached s.race.entryDeadline then s.closeEntry else s)

/-- SETTLE DUE (R107): every head that is due is issued. -/
def execSettleDue (s : State) : Host.Outcome State Fault Refusal := .next s.issueAllDue

/-- GRACE DEADLINE (R109, R100): every pending finish is issued, then the race ends. -/
def execGraceDeadline (s : State) : Host.Outcome State Fault Refusal :=
  .next (if s.acting ∧ s.raceOn ∧ s.reached s.race.graceDeadline then
      (State.issueEvery s.finish.waiting.length s).endRace
    else s)

/-- LISTEN DEADLINE (R164): NUMBERED with the pin, or CLAIMING. -/
def execListenDeadline (s : State) : Host.Outcome State Fault Refusal :=
  .next (if s.dir.numbering = .listening ∧ s.reached s.dir.listenDeadline then s.endListening else s)

/-- CLAIM RETRY (R167): a fresh choice with the taken marks emptied. -/
def execClaimRetry (s : State) : Host.Outcome State Fault Refusal :=
  .next (if s.dir.numbering = .claiming ∧ s.reached s.dir.claimRetry then s.chooseAfresh else s)

/-- STATION QUIET (R166): an entry unheard for 8 liveness units. -/
def execStationQuiet (station : Nat) (s : State) : Host.Outcome State Fault Refusal :=
  .next (match s.dir.entry? station with
    | some e => if s.unheardUnits e 8 then s.makeQuiet station else s
    | none => s)

/-- STATION REMOVED (R166): an entry unheard for 200 liveness units, in LOBBY or CLAIMING. -/
def execStationRemoved (station : Nat) (s : State) : Host.Outcome State Fault Refusal :=
  .next (match s.dir.entry? station with
    | some e =>
      if s.unheardUnits e 200 ∧ (s.race.phase = .lobby ∨ s.race.phase = .claiming) then s.dropStation station else s
    | none => s)

/-- The candidate's entry marked QUIET, and the search repeated (R135). -/
def State.giveUpCandidate (s : State) : State :=
  match s.clock.candidate with
  | some k => (s.makeQuiet k).search
  | none => s.search

/-- What the beat watchdog brings when it runs out (the table of R132). -/
def State.watchdogOut (s : State) : State :=
  match s.dir.numbering, s.clock.role with
  | .numbered, .follower => s.search
  | .numbered, .waiting => s.giveUpCandidate
  | .numbered, .acting | .detached, _ => s
  | .numbered, .ineligible | .listening, _ | .claiming, _ | .conflict, _ => s.restartWatchdog

/-- WATCHDOG EXPIRY (R132): the beat watchdog has run out. -/
def execWatchdogExpiry (s : State) : Host.Outcome State Fault Refusal :=
  .next (if s.clock.watchdog = some 0 then s.watchdogOut else s)

/-- BEAT TIMER (R137): on the acting referee the beat timer has run out; a BEAT is deposited. -/
def execBeatTimer (s : State) : Host.Outcome State Fault Refusal :=
  .next (if s.acting ∧ s.clock.beatTimer = some 0 then s.restartBeatTimer.queueBeat else s)

/-- The Race Clock at one tick (R123, R125, R131, R137): race time advances, or a hold-off above 0 runs down. -/
def RaceClock.tick (c : RaceClock) : RaceClock :=
  { c with
    ticks := c.ticks + 1
    time := if c.holdOff = 0 then c.time + 1 else c.time
    holdOff := c.holdOff - 1
    watchdog := c.watchdog.map (· - 1)
    beatTimer := c.beatTimer.map (· - 1) }

/-- The stall timer at one tick (R181): it runs in every receiver state but HUNT, to its 50 ticks. -/
def CabinetLink.tick (l : CabinetLink) : CabinetLink :=
  if l.receiver = .hunt then l else { l with stall := min (l.stall + 1) Config.stallTicks }

/-- The count of ticks spent STUCK at one tick (R160). -/
def BusController.tick (b : BusController) : BusController :=
  if b.line = .stuck then { b with stuckTicks := saturate (b.stuckTicks + 1) } else b

/-- TIME BASE TICK (R125). -/
def execTimeBaseTick (s : State) : Host.Outcome State Fault Refusal :=
  .next (((s.withClock s.clock.tick).withLink s.link.tick).withBus s.bus.tick)

end Sys2Proof.Machine
end

