-- ==== Sys2Proof/Machine/Dispatch.lean ====
section
/-! DEFINITION. The effect of each command on everything but the queue: one arm per row of the opcode table, each one
direct call of its meaning. -/

namespace Sys2Proof.Machine

def exec (i : Instr) (s : State) : Host.Outcome State Fault Refusal :=
  match i with
  | .setup p => Sys2Proof.Machine.execSetup p s
  | .track p => Sys2Proof.Machine.execTrack p s
  | .attach p => Sys2Proof.Machine.execAttach p s
  | .detach p => Sys2Proof.Machine.execDetach p s
  | .restart p => Sys2Proof.Machine.execRestart p s
  | .enter p => Sys2Proof.Machine.execEnter p s
  | .leave p => Sys2Proof.Machine.execLeave p s
  | .ready p => Sys2Proof.Machine.execReady p s
  | .hold p => Sys2Proof.Machine.execHold p s
  | .car p => Sys2Proof.Machine.execCar p s
  | .openRace p => Sys2Proof.Machine.execOpenRace p s
  | .formGrid p => Sys2Proof.Machine.execFormGrid p s
  | .abort p => Sys2Proof.Machine.execAbort p s
  | .close p => Sys2Proof.Machine.execClose p s
  | .askCar p => Sys2Proof.Machine.execAskCar p s
  | .askOrder p => Sys2Proof.Machine.execAskOrder p s
  | .askResults p => Sys2Proof.Machine.execAskResults p s
  | .askStatus p => Sys2Proof.Machine.execAskStatus p s
  | .timeForm p => Sys2Proof.Machine.execTimeForm p s
  | .fetch p => Sys2Proof.Machine.execFetch p s
  | .unknownKind kind => Sys2Proof.Machine.execUnknownKind kind s
  | .linkCheckError kind payload check => Sys2Proof.Machine.execLinkCheckError kind payload check s
  | .linkFramingFault chars => Sys2Proof.Machine.execLinkFramingFault chars s
  | .linkLengthError length => Sys2Proof.Machine.execLinkLengthError length s
  | .linkStallTimeout chars => Sys2Proof.Machine.execLinkStallTimeout chars s
  | .replySent => Sys2Proof.Machine.execReplySent s
  | .restartPerformed => Sys2Proof.Machine.execRestartPerformed s
  | .powerOn straps => Sys2Proof.Machine.execPowerOn straps s
  | .resetPin straps => Sys2Proof.Machine.execResetPin straps s
  | .frameStart won => Sys2Proof.Machine.execFrameStart won s
  | .arbitrationLost => Sys2Proof.Machine.execArbitrationLost s
  | .mismatch => Sys2Proof.Machine.execMismatch s
  | .attemptEnd acknowledged objected => Sys2Proof.Machine.execAttemptEnd acknowledged objected s
  | .lineIdle => Sys2Proof.Machine.execLineIdle s
  | .busStuck => Sys2Proof.Machine.execBusStuck s
  | .busClear => Sys2Proof.Machine.execBusClear s
  | .badFrame fault => Sys2Proof.Machine.execBadFrame fault s
  | .beat source b => Sys2Proof.Machine.execBeat source b s
  | .verdict source v => Sys2Proof.Machine.execVerdict source v s
  | .holdState source raceNumber holding => Sys2Proof.Machine.execHoldState source raceNumber holding s
  | .raceSetup source r => Sys2Proof.Machine.execRaceSetup source r s
  | .entries source e => Sys2Proof.Machine.execEntries source e s
  | .retire source raceNumber station reason => Sys2Proof.Machine.execRetire source raceNumber station reason s
  | .results source raceNumber list => Sys2Proof.Machine.execResults source raceNumber list s
  | .controlAbort source raceNumber reason => Sys2Proof.Machine.execControlAbort source raceNumber reason s
  | .entryEnter source raceNumber signature => Sys2Proof.Machine.execEntryEnter source raceNumber signature s
  | .entryLeave source raceNumber => Sys2Proof.Machine.execEntryLeave source raceNumber s
  | .report source raceNumber r => Sys2Proof.Machine.execReport source raceNumber r s
  | .announce source a => Sys2Proof.Machine.execAnnounce source a s
  | .claim serial wanted => Sys2Proof.Machine.execClaim serial wanted s
  | .green => Sys2Proof.Machine.execGreen s
  | .lights => Sys2Proof.Machine.execLights s
  | .carSilent station => Sys2Proof.Machine.execCarSilent station s
  | .retireLimit station => Sys2Proof.Machine.execRetireLimit station s
  | .benchDeadline station => Sys2Proof.Machine.execBenchDeadline station s
  | .entryWindow => Sys2Proof.Machine.execEntryWindow s
  | .settleDue => Sys2Proof.Machine.execSettleDue s
  | .graceDeadline => Sys2Proof.Machine.execGraceDeadline s
  | .listenDeadline => Sys2Proof.Machine.execListenDeadline s
  | .claimRetry => Sys2Proof.Machine.execClaimRetry s
  | .stationQuiet station => Sys2Proof.Machine.execStationQuiet station s
  | .stationRemoved station => Sys2Proof.Machine.execStationRemoved station s
  | .watchdogExpiry => Sys2Proof.Machine.execWatchdogExpiry s
  | .beatTimer => Sys2Proof.Machine.execBeatTimer s
  | .timeBaseTick => Sys2Proof.Machine.execTimeBaseTick s

end Sys2Proof.Machine
end

