-- ==== Sys2Proof/Safety.lean ====
section
/-! DEFINITION. What a safe run keeps: the limits of each queue and count, how numbering, phase and role stand to each
other, and which state only a few commands may touch. Statements are made in these terms. -/

namespace Sys2Proof.Machine

/-! ## What the race, the bus and time never touch -/

/-- The state that only the link's own requests, a reset or a tick may change: the track (R1, R2), the six SETUP
fields (R188), the serial (R163), the straps (R198), the link (R178 to R187), the count of ticks (R123), and the
model's own command queue. -/
structure Kept where
  track : Option Track
  settings : Settings
  serial : Serial
  straps : Straps
  link : CabinetLink
  ticks : Nat
  pending : List Instr
  deriving DecidableEq, Repr

/-- What a state keeps. -/
def State.kept (s : State) : Kept :=
  ⟨s.track, ⟨s.dir.pin, s.clock.eligible, s.clock.beatPeriod, s.clock.timeout, s.clock.latency, s.dir.label⟩,
    s.dir.serial, s.straps, s.link, s.clock.ticks, s.pending⟩

/-! ## Limits -/

/-- The Notice Queue holds at most 32 notices and one ORDER, its dropped count is at most 255, and is 0 while the
list is empty (R193, R194, R197). -/
def NoticeQueue.Ok (q : NoticeQueue) : Prop :=
  q.list.length ≤ Config.noticeCapacity ∧ (q.list.filter Notice.isOrder).length ≤ 1 ∧ q.dropped ≤ 255 ∧
    (q.list = [] → q.dropped = 0)

/-- The first entry of a request queue that waits is a RESTART. -/
def firstWaitIsRestart (q : List QueueEntry) : Prop :=
  (q.find? QueueEntry.waits).all (fun e => e.request.any isRestart) = true

/-- The head of a request queue is a RESTART that has been performed and whose reply is still being sent. -/
def restartAnswering (q : List QueueEntry) : Prop :=
  q.head?.any (fun e => e.request.any isRestart && e.reply.isSome && !e.sent) = true

/-- The entries of a request queue that wait to be taken do so for a RESTART (R184, R187): one that waits itself at
their head, or one just performed. -/
def waitsForRestart (q : List QueueEntry) : Prop := firstWaitIsRestart q ∨ restartAnswering q

/-- The request queue holds at most 4 entries, no owed-overrun count passes 255, no reply is sent before it is built,
and an entry waits only for a RESTART (R184, R185, R187). -/
def CabinetLink.Ok (l : CabinetLink) : Prop :=
  l.queue.length ≤ Config.requestCapacity ∧ (∀ e ∈ l.queue, e.owed.length ≤ 255) ∧
    (∀ e ∈ l.queue, e.reply = none → e.sent = false) ∧ waitsForRestart l.queue

/-- The counts of the Race Bus Controller stay within their ranges (R162, R191), and its FIFOs within theirs
(R155). -/
def BusController.Ok (b : BusController) : Prop :=
  b.receiveErrors ≤ 255 ∧ b.droppedReports ≤ 65535 ∧ b.superseded ≤ 65535 ∧ b.outbound.verdict.length ≤ 8 ∧
    b.outbound.control.length ≤ 4

/-! ## Standing -/

/-- The numbering states that go with a phase (R72). -/
def numberingFits (n : Numbering) (p : Phase) : Bool :=
  match n with
  | .detached => decide (p = .detached)
  | .listening | .claiming | .conflict => decide (p = .claiming)
  | .numbered => decide (p ≠ .detached) && decide (p ≠ .claiming)

/-- How numbering, phase, number and role stand to each other (R72, R163, R139): the phase goes with the numbering
state, a number is held exactly in NUMBERED and CONFLICT, and only a NUMBERED station acts. -/
def State.Standing (s : State) : Prop :=
  numberingFits s.dir.numbering s.race.phase = true ∧
    (s.dir.number.isSome ↔ s.dir.numbering = .numbered ∨ s.dir.numbering = .conflict) ∧
    (s.clock.role = .acting → s.dir.numbering = .numbered)

/-- The tables of stations (R25, R26, R163): the Car Table holds one record for each station of the directory and for no other,
both in ascending station number below 8; a NUMBERED station is among them; and the pin, the number held and the wanted number
are station numbers. -/
def State.TablesOk (s : State) : Prop :=
  s.cars.map CarRecord.station = s.dir.entries.map DirEntry.number ∧
    (s.dir.entries.map DirEntry.number).Pairwise (· < ·) ∧ (∀ e ∈ s.dir.entries, e.number < 8) ∧
    (∀ own, s.ownStation = some own → own ∈ s.dir.entries.map DirEntry.number) ∧
    (∀ k, s.dir.pin = some k ∨ s.dir.number = some k ∨ s.dir.wanted = some k → k < 8)

/-- The hold-off lies in 0 to 500 (R123). -/
def State.HoldOffOk (s : State) : Prop := s.clock.holdOff ≤ Config.holdOffLimit

/-! ## The results list -/

/-- Where a record stands in a results list (R114): FINISHED with an official position first, by position; then NOT
CLASSIFIED and then RETIRED, each by progress, the greatest first and an absent one last, then by grid slot, an absent one
last, then by station; BENCHED last of all, by grid slot. R114 places neither a BENCHED entry without a slot nor two of one
slot: slot and station decide as before (DESIGN CHOICE, log 49). -/
def CarRecord.resultRank (c : CarRecord) : List Int :=
  let progress : List Int := match c.p with
    | some p => [0, -p]
    | none => [1, 0]
  let slot : List Int := match c.slot with
    | some k => [0, (k : Int)]
    | none => [1, 0]
  match c.state, c.position with
  | .finished, some p => [0, (p : Int)]
  | .retired, _ => 2 :: progress ++ slot ++ [(c.station : Int)]
  | .benched, _ => 3 :: slot ++ [(c.station : Int)]
  | _, _ => 1 :: progress ++ slot ++ [(c.station : Int)]

/-- An entry of a results list shows a record, by the records' table of R115 and the fields of R114: position, marks and
elapsed time only for one FINISHED with an official position. The table has no row for IDLE, which counts with GRIDDED and
ENTERED (DESIGN CHOICE, log 49). Of the elapsed time nothing is said where G is absent or lies after the tf (logs 2, 55). -/
def ResultEntry.Shows (green : Option Nat) (c : CarRecord) (e : ResultEntry) : Prop :=
  e.station = c.station ∧ e.slot = c.slot ∧ e.bestLap = c.bestLap ∧ e.laps = c.laps ∧
    if c.state = .finished ∧ c.position.isSome = true then
      e.status = .finished ∧ e.position = c.position ∧ e.marks = c.marks ∧
        e.tfElapsed.isSome = c.officialTf.isSome ∧
        ∀ g tf, green = some g → c.officialTf = some tf → g ≤ tf → e.tfElapsed = some (min (tf - g) 4294967295)
    else
      e.status = (if c.state = .retired then .retired else if c.state = .benched then .benched else .notClassified) ∧
        e.position = none ∧ e.marks = ⟨false, false, false⟩ ∧ e.tfElapsed = none

/-- The entries of a results list are those of R114 and R115 for a green time, the records and the entrants: one for each
entrant that has a record, showing it, in the order of R114. -/
def ResultsShow (green : Option Nat) (cars : List CarRecord) (entrants : List Entry) (list : List ResultEntry) : Prop :=
  ∃ rows : List CarRecord,
    rows.Perm (entrants.filterMap fun e => cars.find? fun c => c.station == e.station) ∧
    rows.Pairwise (fun a b => keyLt b.resultRank a.resultRank = false) ∧
    List.Forall₂ (ResultEntry.Shows green) rows list

/-! ## Readiness of the link -/

/-- A request that arrives now is taken at once: the receiver hunts for a sync byte, the queue has room and nothing waits
for a RESTART (R179, R184, R187). -/
def CabinetLink.Ready (l : CabinetLink) : Prop :=
  l.receiver = .hunt ∧ l.queue.length < Config.requestCapacity ∧ l.queue.any QueueEntry.waits = false

/-- The link after a request has been taken and answered (R184, R186). -/
def CabinetLink.answered (r : Request) (a : Answer) (l : CabinetLink) : CabinetLink :=
  ⟨.hunt, 0, l.queue ++ [⟨some r, some (requestReply r a), false, []⟩]⟩

/-- The link after a LINK ERROR has taken its place in reply order (R185, R186). -/
def CabinetLink.errored (code : LinkErrorCode) (kind : Option Byte) (after : Receiver) (l : CabinetLink) :
    CabinetLink :=
  ⟨after, 0, l.queue ++ [⟨none, some (.linkError code kind), false, []⟩]⟩

/-! ## Requests among the commands -/

/-- The request a command brings, for the 20 host requests. -/
def requestOf : Instr → Option Request
  | .setup p => some (.setup p)
  | .track p => some (.track p)
  | .attach p => some (.attach p)
  | .detach p => some (.detach p)
  | .restart p => some (.restart p)
  | .enter p => some (.enter p)
  | .leave p => some (.leave p)
  | .ready p => some (.ready p)
  | .hold p => some (.hold p)
  | .car p => some (.car p)
  | .openRace p => some (.openRace p)
  | .formGrid p => some (.formGrid p)
  | .abort p => some (.abort p)
  | .close p => some (.close p)
  | .askCar p => some (.askCar p)
  | .askOrder p => some (.askOrder p)
  | .askResults p => some (.askResults p)
  | .askStatus p => some (.askStatus p)
  | .timeForm p => some (.timeForm p)
  | .fetch p => some (.fetch p)
  | _ => none

/-! ## Frames heard -/

/-- A good frame of station `src` is received now, from a station known as LIVE that is not this one (R152, R165). -/
def State.Hears (src : Nat) (s : State) : Prop :=
  s.receives = true ∧ s.dir.number ≠ some src ∧ (s.dir.entry? src).any DirEntry.live = true

/-- The station whose good frame a command brings; a CLAIM has no source station (R152). -/
def sourceOf : Instr → Option Nat
  | .beat src _ | .verdict src _ | .holdState src _ _ | .raceSetup src _ | .entries src _ | .retire src _ _ _
  | .results src _ _ | .controlAbort src _ _ | .entryEnter src _ _ | .entryLeave src _ | .report src _ _
  | .announce src _ => some src
  | _ => none

/-- The race number of a race-bound frame (R147). -/
def raceOf : Instr → Option Nat
  | .verdict _ v => some v.raceNumber
  | .holdState _ n _ | .retire _ n _ _ | .results _ n _ | .controlAbort _ n _ | .entryEnter _ n _ | .entryLeave _ n
  | .report _ n _ => some n
  | .entries _ e => some e.raceNumber
  | _ => none

/-- The part after a good frame of a known LIVE station has been acknowledged and its source recorded, before the
frame's owner acts (R144, R154, R165): the line BUSY, and the entry heard now. -/
def State.heard (src : Nat) (s : State) : State :=
  { s with
    bus := { s.bus with line := .busy, acknowledged := true, objected := false }
    dir := { s.dir with entries :=
      match s.dir.entry? src with
      | some e => insertEntry { e with lastHeard := s.clock.time, unit := s.clock.working } s.dir.entries
      | none => s.dir.entries } }

end Sys2Proof.Machine
end

