-- ==== Sys2Proof/WellFormed.lean ====
section
/-! DEFINITION. Which commands can reach the part: every operand at a value its encoding admits (R202 to R204), and
every faulty input really faulty. Each operand has its own check. -/

namespace Sys2Proof

/-! ## Field checks (R202) -/

/-- A value of `w` unsigned bytes. -/
def fits (w n : Nat) : Bool := decide (n < 256 ^ w)

/-- A value of `w` signed bytes. -/
def fitsSigned (w : Nat) (v : Int) : Bool :=
  decide (-(256 ^ w : Nat) ≤ 2 * v) && decide (2 * v < (256 ^ w : Nat))

/-- A small number that is present: one byte but not the absence value. -/
def wfSmall (n : Nat) : Bool := decide (n < 255)

/-- A race time that is present. -/
def wfTime (t : Nat) : Bool := decide (t < 281474976710655)

/-- An optional value, checked where it is present. -/
def wfOption {α : Type} (p : α → Bool) : Option α → Bool
  | some a => p a
  | none => true

/-- A race number that is present: 1 to 255. -/
def wfRace (n : Nat) : Bool := decide (1 ≤ n) && decide (n < 256)

/-- A source station (R204). -/
def wfSource (n : Nat) : Bool := decide (n < 8)

/-- A value of `w` bytes that are not all 0xFF, for an option of OPEN that is present (R203). -/
def wfOpen (w n : Nat) : Bool := decide (n < 256 ^ w - 1)

/-! ## Request payloads -/

/-- SETUP's operands, within one payload (log 29 for the widths). -/
def wfSetup (f : SetupFields) : Bool :=
  fits 1 f.pin && fits 1 f.eligible && fits 4 f.beatPeriod && fits 1 f.timeout && fits 4 f.latency &&
    decide (f.label.length ≤ 109)

/-- TRACK's operands, in the widths of R4, within one payload. -/
def wfTrack (f : TrackFields) : Bool :=
  fits 2 f.id && fits 4 f.L && fits 1 f.S && decide (f.starts.length ≤ 28) && f.starts.all (fits 4)

/-- CAR's operands (R203). -/
def wfCar (f : CarFields) : Bool :=
  fits 4 f.d && fitsSigned 2 f.v && fitsSigned 2 f.lateral && fits 2 f.heading && decide (f.extra.length ≤ 110)

/-- OPEN's operands (R203). -/
def wfOpenFields (f : OpenFields) : Bool :=
  fits 2 f.trackId && wfOption (wfOpen 1) f.laps && wfOption (wfOpen 1) f.policy &&
    wfOption (wfOpen 2) f.silenceLimit && wfOption (wfOpen 4) f.retireLimit &&
    wfOption (wfOpen 2) f.extrapolationCap && wfOption (wfOpen 2) f.coastCap && wfOption (wfOpen 2) f.settleWindow &&
    wfOption (wfOpen 4) f.graceWindow && wfOption (wfOpen 1) f.minimumField && wfOption (wfOpen 4) f.entryWindow &&
    wfOption (wfOpen 1) f.lightsCount && wfOption (wfOpen 2) f.lightInterval && wfOption (wfOpen 4) f.singleHold &&
    wfOption (wfOpen 4) f.holdBudget

/-- FORM GRID's station list: numbers that are present, within one payload. -/
def wfStations (l : List Nat) : Bool := decide (l.length ≤ 120) && l.all wfSmall

/-- ASK CAR's name: a number that is present. -/
def wfCarName : CarName → Bool
  | .station n => wfSmall n
  | .slot k => wfSmall k

/-- TIME FORM's value (R122). -/
def wfTimeValue : TimeValue → Bool
  | .elapsed e => fits 4 e
  | .gap g => fitsSigned 4 g
  | .otherKind k => fits 1 k && decide (2 ≤ k)

/-- A form, checked where it is one; a malformed payload is one that `read` finds no form in. -/
def wfForm {α : Type} (p : α → Bool) (read : List Byte → Form α) : Form α → Bool
  | .form a => p a
  | .malformed payload => decide (payload.length ≤ 120) && Machine.formBad (read payload)

/-- A request that a frame can carry. -/
def Request.wf : Request → Bool
  | .setup p => wfForm wfSetup Machine.setupForm p
  | .track p => wfForm wfTrack Machine.trackForm p
  | .attach p | .detach p | .restart p | .enter p | .leave p | .ready p | .hold p | .abort p | .close p
  | .askOrder p | .askResults p | .fetch p => wfForm (fun _ => true) Machine.emptyForm p
  | .car p => wfForm wfCar Machine.carForm p
  | .openRace p => wfForm wfOpenFields Machine.openForm p
  | .formGrid p => wfForm wfStations Machine.stationsForm p
  | .askCar p => wfForm wfCarName Machine.carNameForm p
  | .askStatus p => wfForm (fun _ => true) Machine.flagForm p
  | .timeForm p => wfForm wfTimeValue Machine.timeValueForm p

/-- A request that a frame can carry. -/
def Request.WellFormed (r : Request) : Prop := r.wf = true

/-! ## Frame payloads (R204) -/

/-- A report (R204). -/
def wfReport (r : Report) : Bool :=
  wfTime r.stamp && fits 4 r.d && fitsSigned 2 r.v && fitsSigned 2 r.lateral && fits 2 r.heading &&
    decide (r.extra.length ≤ 16)

/-- A BEAT. -/
def wfBeat (b : BeatFields) : Bool :=
  wfTime b.time && wfOption wfRace b.raceNumber && wfOption wfTime b.green && wfSmall b.count

/-- A VERDICT. -/
def wfVerdict (v : VerdictFields) : Bool :=
  wfRace v.raceNumber && wfSmall v.station && wfSmall v.position && wfTime v.tf

/-- The 14 options in their widths: a RACE SETUP can carry one outside its range of R79 (log 62). -/
def wfOptions (o : Options) : Bool :=
  wfSmall o.laps && fits 2 o.silenceLimit && fits 4 o.retireLimit && fits 2 o.extrapolationCap && fits 2 o.coastCap &&
    fits 2 o.settleWindow && fits 4 o.graceWindow && wfSmall o.minimumField && fits 4 o.entryWindow &&
    wfSmall o.lightsCount && fits 2 o.lightInterval && fits 4 o.singleHold && fits 4 o.holdBudget

/-- A RACE SETUP. -/
def wfRaceSetup (r : RaceSetupFields) : Bool :=
  wfRace r.raceNumber && wfOption wfTime r.green && wfOptions r.options && fits 2 r.trackRef.id

/-- An entry of ENTRIES, whose grid slot is any small number that is present (log 60). -/
def wfEntry (e : Entry) : Bool := wfSmall e.station && wfOption wfSmall e.slot

/-- An ENTRIES. -/
def wfEntries (e : EntriesFields) : Bool :=
  wfRace e.raceNumber && wfOption (fun r : LastRefusal => wfSmall r.station) e.refusal &&
    decide (e.entries.length ≤ 8) && e.entries.all wfEntry

/-- A value of 4 bits that is not the absence value 0; a value above 8 is no form fault (log 61). -/
def wfNibble (n : Nat) : Bool := decide (1 ≤ n) && decide (n < 16)

/-- An entry of RESULTS: a position and a tf elapsed exactly with FINISHED. -/
def wfResult (e : ResultEntry) : Bool :=
  wfOption wfNibble e.position && wfSource e.station && wfOption wfNibble e.slot && wfOption (fits 4) e.tfElapsed &&
    wfOption (fits 4) e.bestLap && decide (e.laps < 128) &&
    (e.position.isSome == decide (e.status = .finished)) && (e.tfElapsed.isSome == decide (e.status = .finished))

/-- A RESULTS: 1 to 8 entries. -/
def wfResults (n : Nat) (l : List ResultEntry) : Bool :=
  wfRace n && decide (1 ≤ l.length) && decide (l.length ≤ 8) && l.all wfResult

/-- An ANNOUNCE. -/
def wfAnnounce (a : AnnounceFields) : Bool := decide (a.label.length ≤ 8)

/-- The checks of a frame of this part's own, its contents formed (R147). A race-bound frame carries a race number. -/
def wfFrame : Machine.Frame → Bool
  | .beat (some b) => wfBeat b
  | .beat none => false
  | .verdict v => wfVerdict v
  | .holdState n _ => wfRace n
  | .raceSetup r => wfRaceSetup r
  | .entries e => wfEntries e
  | .retire n st _ => wfRace n && wfSmall st
  | .results n l => wfResults n l
  | .abort n _ => wfRace n
  | .enter n _ => wfRace n
  | .leave n => wfRace n
  | .report n r => wfRace n && wfReport r
  | .announce a => wfAnnounce a
  | .claim _ n => wfSmall n

/-- A frame that can be sent and received as it stands. -/
def Machine.Frame.WellFormed (f : Machine.Frame) : Prop := wfFrame f = true

/-! ## Commands -/

/-- The checks of a command's operands. -/
def Instr.wf : Instr → Bool
  | .setup p => Request.wf (.setup p)
  | .track p => Request.wf (.track p)
  | .attach p => Request.wf (.attach p)
  | .detach p => Request.wf (.detach p)
  | .restart p => Request.wf (.restart p)
  | .enter p => Request.wf (.enter p)
  | .leave p => Request.wf (.leave p)
  | .ready p => Request.wf (.ready p)
  | .hold p => Request.wf (.hold p)
  | .car p => Request.wf (.car p)
  | .openRace p => Request.wf (.openRace p)
  | .formGrid p => Request.wf (.formGrid p)
  | .abort p => Request.wf (.abort p)
  | .close p => Request.wf (.close p)
  | .askCar p => Request.wf (.askCar p)
  | .askOrder p => Request.wf (.askOrder p)
  | .askResults p => Request.wf (.askResults p)
  | .askStatus p => Request.wf (.askStatus p)
  | .timeForm p => Request.wf (.timeForm p)
  | .fetch p => Request.wf (.fetch p)
  | .unknownKind f => decide (f.payload.length ≤ 120) && !Machine.requestKinds.contains f.kind
  | .linkCheckError k p c => decide (p.length ≤ 120) && (c != Machine.linkCheck k p)
  | .linkFramingFault cs => decide (cs.length ≤ 257)
  | .linkLengthError n => decide (120 < n.toNat)
  | .linkStallTimeout cs => decide (cs.length ≤ 257)
  | .replySent | .restartPerformed | .powerOn _ | .resetPin _ => true
  | .frameStart _ | .arbitrationLost | .mismatch | .attemptEnd _ _ | .lineIdle | .busStuck | .busClear => true
  | .badFrame f => match f with
    | .stopBitDominant | .startBitMissing => true
    | .characters cs => (Machine.receivedFrame cs).isNone
  | .beat src b => wfSource src && wfBeat b
  | .verdict src v => wfSource src && wfVerdict v
  | .holdState src n _ => wfSource src && wfRace n
  | .raceSetup src r => wfSource src && wfRaceSetup r
  | .entries src e => wfSource src && wfEntries e
  | .retire src n st _ => wfSource src && wfRace n && wfSmall st
  | .results src n l => wfSource src && wfResults n l
  | .controlAbort src n _ => wfSource src && wfRace n
  | .entryEnter src n _ => wfSource src && wfRace n
  | .entryLeave src n => wfSource src && wfRace n
  | .report src n r => wfSource src && wfRace n && wfReport r
  | .announce src a => wfSource src && wfAnnounce a
  | .claim _ n => wfSmall n
  | .carSilent st | .retireLimit st | .benchDeadline st | .stationQuiet st | .stationRemoved st => wfSource st
  | .green | .lights | .entryWindow | .settleDue | .graceDeadline | .listenDeadline | .claimRetry
  | .watchdogExpiry | .beatTimer | .timeBaseTick => true

/-- A command that can reach the part. -/
def Instr.WellFormed (c : Instr) : Prop := c.wf = true

end Sys2Proof
end

