-- ==== Sys2Proof/Certificates/Slice0/Obligations.lean ====
section
/-! DEFINITION. The statements for the provers: the rules of the manual as the steps of the model keep them. -/

open Sys2Proof Sys2Proof.Machine

/-! ## The queue of commands, reset, and what every step keeps -/

/-- With command `c` at the front of the queue, a step is `exec c` on the state with the queue's rest. With no command
waiting the block idles (the model's choice, log 5). -/
def Obligations.StepTakesTheFront : Prop :=
  (∀ (c : Instr) (rest : List Instr) (s : State), s.pending = c :: rest →
    Machine.step s = Machine.exec c (s.withPending rest)) ∧
  (∀ s : State, s.pending = [] → Machine.step s = .next s)

/-- The values the manual gives the part when RESET goes high. The straps, the serial and the model's own fields are
not part of it. -/
def Obligations.ResetValues : Prop :=
  let s := State.reset
  s.track = none ∧ s.cars = [] ∧
    s.order = ⟨[], List.replicate 64 none, none, none, none, none⟩ ∧
    s.race.phase = .detached ∧ s.race.raceNumber = none ∧ s.race.trackRef = none ∧
    s.race.options = ⟨3, .hold, 2000, 50000, 1000, 10000, 1000, 300000, 2, 200000, 5, 10000, 200000, 300000⟩ ∧
    s.race.entries = [] ∧ s.race.lastRefusal = none ∧ s.race.green = none ∧ s.race.lights = 0 ∧ s.race.holdSet = 0#8 ∧
    s.race.enterPending = false ∧ s.race.holdAsked = false ∧ s.race.holdTable = [] ∧ s.race.remainder = none ∧
    s.race.entryDeadline = none ∧ s.race.graceDeadline = none ∧
    s.finish = ⟨0, [], none⟩ ∧
    s.clock.time = 0 ∧ s.clock.holdOff = 0 ∧ s.clock.beatPeriod = 100 ∧ s.clock.timeout = 4 ∧ s.clock.latency = 2 ∧
    s.clock.eligible = true ∧ s.clock.followed = none ∧ s.clock.lastBeat = none ∧ s.clock.role = .follower ∧
    s.clock.referee = none ∧ s.clock.candidate = none ∧ s.clock.watchdog = none ∧ s.clock.beatTimer = none ∧
    s.clock.conflict = false ∧
    s.dir.pin = none ∧ s.dir.label = [] ∧ s.dir.numbering = .detached ∧ s.dir.number = none ∧
    s.dir.listenDeadline = none ∧ s.dir.wanted = none ∧ s.dir.taken = 0#8 ∧ s.dir.claimRetry = none ∧
    s.dir.entries = [] ∧ s.dir.slots = [] ∧
    s.bus.line = .off ∧ s.bus.outbound = Outbound.empty ∧ s.bus.receiveErrors = 0 ∧ s.bus.droppedReports = 0 ∧
    s.bus.superseded = 0 ∧
    s.notices.list = [] ∧ s.notices.dropped = 0 ∧ s.attnLow = false ∧
    s.link.receiver = .hunt ∧ s.link.queue = []

/-- The part right after reset meets every invariant below. -/
def Obligations.ResetMeetsTheInvariants : Prop :=
  State.reset.notices.Ok ∧ State.reset.link.Ok ∧ State.reset.bus.Ok ∧ State.reset.Standing ∧ State.reset.HoldOffOk ∧
    State.reset.TablesOk

/-- Every command is carried out in every state, and the commands that wait behind it stay as they are. -/
def Obligations.EveryCommandIsCarriedOut : Prop :=
  ∀ (c : Instr) (s : State), ∃ t, Machine.exec c s = .next t ∧ t.pending = s.pending

/-- The Notice Queue holds at most 32 notices and one ORDER, its dropped count stays within 255, and is 0 while the
list is empty. The counts of the Race Bus Controller and its two FIFOs stay within their sizes, and the hold-off
within 0 to 500. Every step keeps each of the three. -/
def Obligations.QueuesAndCountsStayWithinTheirLimits : Prop :=
  (∀ s t : State, s.notices.Ok → Machine.step s = .next t → t.notices.Ok) ∧
  (∀ s t : State, s.bus.Ok → Machine.step s = .next t → t.bus.Ok) ∧
  (∀ s t : State, s.HoldOffOk → Machine.step s = .next t → t.HoldOffOk)

/-- The phase goes with the numbering state, a number is held exactly in NUMBERED and CONFLICT, and only a NUMBERED
station is ACTING. Every step keeps this. -/
def Obligations.PhaseNumberAndRoleStayInStep : Prop :=
  ∀ s t : State, s.Standing → Machine.step s = .next t → t.Standing

/-- The request queue holds at most 4 entries, an owed-overrun count at most 255, and an entry waits to be taken only
for a RESTART. Every step keeps this. -/
def Obligations.RequestQueueStaysWithinItsLimits : Prop :=
  ∀ s t : State, s.link.Ok → Machine.step s = .next t → t.link.Ok

/-- The Car Table holds one record for each station of the Station Directory and for no other, both in ascending
station number below 8; a numbered station is among them; and pin, number and wanted number are station numbers. Every
step keeps this, where the command it takes is well-formed. -/
def Obligations.RecordsAndEntriesStayInStep : Prop :=
  ∀ s t : State, s.TablesOk → (∀ c, s.pending.head? = some c → c.WellFormed) → Machine.step s = .next t → t.TablesOk

/-- Local race time never decreases, but for power-on, the RESET pin, a performed RESTART (at its turn, or at the end
of the own frame it met, log 24), and a BEAT met in phase CLAIMING or LOBBY (a rebase). -/
def Obligations.RaceTimeDecreasesOnlyAtAResetOrARebase : Prop :=
  ∀ (c : Instr) (s t : State), Machine.exec c s = .next t → t.clock.time < s.clock.time →
    (∃ x, c = .powerOn x) ∨ (∃ x, c = .resetPin x) ∨ c = .restartPerformed ∨
      (∃ src b, c = .beat src b ∧ (s.race.phase = .claiming ∨ s.race.phase = .lobby)) ∨
      (s.bus.leaving = .toRestart ∧
        (c = .arbitrationLost ∨ c = .mismatch ∨ c = .busStuck ∨ ∃ acknowledged objected, c = .attemptEnd acknowledged objected))

/-- The loaded track changes only by a TRACK request, the six SETUP fields only by a SETUP, either of them arriving or
waiting behind a RESTART, and both by power-on and the RESET pin; the serial never changes, and the straps only by
power-on and the RESET pin. Characters that reach a receiver inside a frame may complete any request (log 7). -/
def Obligations.TrackSettingsSerialAndStrapsAreKept : Prop :=
  ∀ (c : Instr) (s t : State), Machine.exec c s = .next t →
    let completes : Prop :=
      (s.link.receiver ≠ .hunt ∧ ((requestOf c).isSome = true ∨ (∃ f, c = .unknownKind f) ∨
        (∃ kind payload check, c = .linkCheckError kind payload check) ∨ ∃ n, c = .linkLengthError n)) ∨
      ∃ chars, c = .linkFramingFault chars ∨ c = .linkStallTimeout chars
    t.dir.serial = s.dir.serial ∧
    (t.straps ≠ s.straps → (∃ x, c = .powerOn x) ∨ (∃ x, c = .resetPin x)) ∧
    (t.track ≠ s.track → (∃ f, c = .track (.form f)) ∨ c = .replySent ∨ (∃ x, c = .powerOn x) ∨ (∃ x, c = .resetPin x) ∨
      completes) ∧
    (t.settings ≠ s.settings → (∃ f, c = .setup (.form f)) ∨ c = .replySent ∨ (∃ x, c = .powerOn x) ∨
      (∃ x, c = .resetPin x) ∨ completes)

/-- A good frame's characters, arbitration character to check, are received as the frame that was sent, from the
station that sent it (a CLAIM bears station bits 7). -/
def Obligations.BusFramesAreReceivedAsSent : Prop :=
  (∀ (f : Frame) (source : Nat), source < 8 → f.WellFormed → (∀ n w, f ≠ .claim n w) →
    receivedFrame (f.characters source) = some (source, f)) ∧
  (∀ (serial : Serial) (wanted source : Nat), wanted < 255 → source < 8 →
    receivedFrame ((Frame.claim serial wanted).characters source) = some (7, .claim serial wanted))

/-! ## Progress arithmetic -/

/-- The delta is the value r + n·L nearest to the expected travel, the smaller of two equally near; n is the least
whole number not below (2·(E − r) − L)/(2·L); the delta lies at or above E − L/2 and below E + L/2; and a record that
has progress and a last report moves by the delta of that report and the new one (R12). -/
def Obligations.DeltaChoiceIsNearest : Prop :=
  (∀ (L dPrev d : Nat) (e : Int), 0 < L →
    let r : Int := ((d : Int) - dPrev) % L
    let delta := deltaChoice L dPrev d e
    0 ≤ r ∧ r < L ∧
    (∃ n : Int, delta = r + n * L ∧ 2 * (e - r) - L ≤ n * (2 * L) ∧
      ∀ k : Int, 2 * (e - r) - L ≤ k * (2 * L) → n ≤ k) ∧
    (∀ m : Int, |delta - e| ≤ |r + m * L - e|) ∧
    (∀ m : Int, |r + m * L - e| = |delta - e| → delta ≤ r + m * L) ∧
    2 * e - L ≤ 2 * delta ∧ 2 * delta < 2 * e + L) ∧
  (∀ (L : Nat) (start : Bool) (c : CarRecord) (p : Int) (prev new : Report), c.p = some p → c.report = some prev →
    c.advance L start new = { c with
      p := some (p + deltaChoice L prev.d new.d (expectedTravel prev.v (new.stamp - prev.stamp)))
      report := some new })

/-- The crossing time of a boundary position B above the previous report's progress and at or below the new one's, the
two stamps in order and within the silence limit: t1 + (t2 − t1)·(B − P1)/(P2 − P1), raised to G, and unmarked (R16).
No crossing time of any row lies before G, before t1 or after t2. -/
def Obligations.CrossingTimesAreInterpolated : Prop :=
  ∀ (limit G : Nat) (new : ReportPoint) (B : Int),
    (crossingTime limit G none new B = (max new.stamp G, true)) ∧
    ∀ old : ReportPoint,
      (B ≤ old.p → crossingTime limit G (some old) new B = (G, false)) ∧
      (old.p < B → new.stamp = old.stamp → crossingTime limit G (some old) new B = (max new.stamp G, false)) ∧
      (old.p < B → old.stamp + limit < new.stamp → crossingTime limit G (some old) new B = (max new.stamp G, true)) ∧
      (old.p < B → B ≤ new.p → old.stamp < new.stamp → new.stamp ≤ old.stamp + limit →
        crossingTime limit G (some old) new B =
          (max (old.stamp + (new.stamp - old.stamp) * (B - old.p).toNat / (new.p - old.p).toNat) G, false)) ∧
      (B ≤ new.p → old.stamp ≤ new.stamp → G ≤ new.stamp → (B ≤ old.p → old.stamp ≤ G) →
        let tc := (crossingTime limit G (some old) new B).1
        G ≤ tc ∧ old.stamp ≤ tc ∧ tc ≤ new.stamp)

/-- Boundary b of a valid track lies at (b div S)·L + s(b mod S); it is a lap line exactly when b mod S is 0, and then
lies at (b div S)·L; the finish boundary N·S lies at N·L; positions rise strictly; and the boundaries looked up in (a,
c] are, in increasing index, those of 1 to N·S whose positions lie there (R6). -/
def Obligations.BoundariesLieWhereTheTrackSays : Prop :=
  ∀ (f : TrackFields) (t : Track), trackValid f = true → t = ⟨f.id, f.L, f.S, f.starts, trackSignature f⟩ →
    (∀ b, t.position b = b / t.S * t.L + t.starts.getD (b % t.S) 0) ∧
    (∀ b, t.lapLine b = true ↔ b % t.S = 0) ∧
    (∀ b, t.lapLine b = true → t.position b = b / t.S * t.L) ∧
    (∀ n, t.finishBoundary n = n * t.S ∧ t.position (t.finishBoundary n) = n * t.L) ∧
    (∀ b c, b < c → t.position b < t.position c) ∧
    (∀ (n : Nat) (a c : Int), (t.boundaries n a c).Pairwise (· < ·) ∧
      ∀ b, b ∈ t.boundaries n a c ↔ 1 ≤ b ∧ b ≤ n * t.S ∧ a < t.position b ∧ (t.position b : Int) ≤ c)

/-! ## The running order -/

/-- A re-evaluation lists, once each, exactly the cars held GRIDDED, RACING, SILENT, FINISHED or RETIRED, whatever the
order was before: before green by grid slot, then station (cars still GRIDDED in ENTRY too, the model's choice, log
53); from RACING on the FINISHED cars by official position, then by provisional tf, the running group by order
progress, then by the earlier crossing (its SILENT cars last under DROP), and the RETIRED cars by P, ties by grid slot
and station, what is absent after what is present. The reported pair is then the own position and the leader; ORDER is
raised exactly when the pair has changed, and no other block changes. A crossing applied to the first-crossing ring:
its entry is written where it is empty or holds a lower index, keeps the earlier time where it holds this index, and
stays where it holds a higher one; no other entry changes, and the leading boundary is raised to the crossing's index.
-/
def Obligations.OrderListsEachCarOnceAndRingKeepsTheEarliest : Prop :=
  ((∀ s : State,
      let own := s.ownPlaceIn s.runningOrder
      let leader := s.runningOrder.head?
      s.reevaluate = { s with
        order := { s.order with order := s.runningOrder, reportedOwn := own, reportedLeader := leader }
        notices := if own = s.order.reportedOwn ∧ leader = s.order.reportedLeader then s.notices
          else s.notices.accept ⟨s.clock.time, .order own leader⟩ }) ∧
    (∀ s : State, (s.cars.map CarRecord.station).Nodup →
      let order := s.reevaluate.order.order
      let tie (c : CarRecord) : List Int := (match c.slot with
        | some k => [0, (k : Int)]
        | none => [1, 0]) ++ [(c.station : Int)]
      let progress (c : CarRecord) : Option Int :=
        if c.state = .silent ∧ s.race.options.policy = .coast then extrapolated s c else c.p
      let started : Prop := s.race.phase = .racing ∨ s.race.phase = .finishing ∨ s.race.phase = .results
      let finished (c : CarRecord) : List Int := match c.position, c.provisionalTf with
        | some n, _ => [0, 0, (n : Int)]
        | none, some tf => [1, 0, (tf : Int)]
        | none, none => [1, 1, 0]
      let running (c : CarRecord) : List Int :=
        (if c.state = .silent ∧ s.race.options.policy = .drop then 1 else 0) :: (match progress c, c.crossed with
          | some p, some x => [0, -p, 0, (x.time : Int)]
          | some p, none => [0, -p, 1, 0]
          | none, _ => [1, 0, 0, 0])
      let retired (c : CarRecord) : List Int := match c.p with
        | some p => [0, -p]
        | none => [1, 0]
      let key (c : CarRecord) : List Int :=
        (if ¬started then [] else if c.state = .finished then 0 :: finished c
          else if c.state = .retired then 2 :: retired c else 1 :: running c) ++ tie c
      order.Nodup ∧
      (∀ st, st ∈ order ↔ ∃ c ∈ s.cars, c.station = st ∧
        (c.state = .gridded ∨ c.state = .racing ∨ c.state = .silent ∨ c.state = .finished ∨ c.state = .retired)) ∧
      (∀ (i j : Nat) (a b : Nat) (ca cb : CarRecord), i < j → order[i]? = some a → order[j]? = some b →
        s.car? a = some ca → s.car? b = some cb → keyLt (key cb) (key ca) = false))) ∧
  (∀ (b tc : Nat) (o : OrderUnit), o.ring.length = 64 →
      let n := o.cross b tc
      n.ring.length = 64 ∧
      (∀ i, i ≠ b % 64 → n.ring.getD i none = o.ring.getD i none) ∧
      (n.ring.getD (b % 64) none = match o.ring.getD (b % 64) none with
        | none => some ⟨b, tc⟩
        | some e => if e.index < b then some ⟨b, tc⟩ else if e.index = b then some ⟨b, min e.time tc⟩ else some e) ∧
      n.leading = some (max (o.leading.getD b) b) ∧
      n.order = o.order ∧ n.fastest = o.fastest ∧ n.reportedOwn = o.reportedOwn ∧ n.reportedLeader = o.reportedLeader)

/-! ## The Notice Queue -/

/-- A notice is taken by what the queue holds (the table of R194): an ORDER rewrites a waiting ORDER in place, another
notice is appended while fewer than 32 wait, and is dropped and counted otherwise. A raised notice carries local race
time, the notices of a list are raised in its order, and after any of them ATTN is low. -/
def Obligations.NoticesAreTakenByWhatTheQueueHolds : Prop :=
  (∀ (n : Notice) (q : NoticeQueue),
    (n.isOrder = true → (∃ m ∈ q.list, m.isOrder = true) →
      q.accept n = { q with list := q.list.map fun m => if m.isOrder then n else m }) ∧
    (n.isOrder = false ∨ (∀ m ∈ q.list, m.isOrder = false) → q.list.length < 32 →
      q.accept n = { q with list := q.list ++ [n] }) ∧
    (n.isOrder = false ∨ (∀ m ∈ q.list, m.isOrder = false) → 32 ≤ q.list.length →
      q.accept n = { q with dropped := min (q.dropped + 1) 255 })) ∧
  (∀ (b : NoticeBody) (bs : List NoticeBody) (s : State),
    s.raise b = { s with notices := s.notices.accept ⟨s.clock.time, b⟩ } ∧
    s.raiseAll (b :: bs) = (s.raise b).raiseAll bs ∧ (s.raise b).attnLow = true)

/-- FETCH removes up to 8 notices from the head and answers DONE with them and with how many still wait. When it
removed some and the dropped count was above 0, an OVERFLOW with that count stands behind the rest and the count
returns to 0. A FETCH that finds the list empty changes nothing. ATTN is low afterwards exactly while notices wait
(R196, R197). -/
def Obligations.FetchRemovesUpToEightNotices : Prop :=
  ∀ s : State, s.link.Ready →
    let q : NoticeQueue :=
      if s.notices.list = [] ∨ s.notices.dropped = 0 then ⟨s.notices.list.drop 8, s.notices.dropped⟩
      else ⟨s.notices.list.drop 8 ++ [⟨s.clock.time, .overflow s.notices.dropped⟩], 0⟩
    Machine.exec (.fetch (.form ())) s = .next { s with
      notices := q
      link := s.link.answered (.fetch (.form ())) ⟨.done, .fetch (s.notices.list.take 8) q.list.length⟩ } ∧
    (s.notices.Ok → q.Ok) ∧
    (({ s with notices := q } : State).attnLow = true ↔ q.list ≠ [])

/-! ## The cabinet link -/

/-- The receiver cuts a frame by count, whatever bytes it holds: from HUNT, after characters that are no sync byte,
the characters of a frame up to its payload's last leave it in CHECK with the length, kind and payload taken; a length
of 0 goes from KIND to CHECK; and SKIP counts its characters down to HUNT. A request's payload reads back as the
request (in the model's widths where the manual gives none, log 29), and a whole frame received character by character
from HUNT has its row's effect: the request arrives, or a LINK ERROR takes its place. A request's frame shorter than
what is left of SKIP is swallowed whole, whatever it carries (log 7: a row stands for its frame's characters). -/
def Obligations.ReceiverCutsFramesByCount : Prop :=
  (∀ (noise : List Byte) (kind : Byte) (payload : List Byte), (∀ c ∈ noise, c ≠ 0x5A#8) → payload.length ≤ 120 →
    Receiver.hunt.feed noise = some .hunt ∧
    Receiver.hunt.feed (noise ++ [0x5A#8]) = some .length ∧
    Receiver.hunt.feed (noise ++ [0x5A#8, byte payload.length]) =
      some (.kind [byte payload.length] payload.length) ∧
    Receiver.hunt.feed (noise ++ 0x5A#8 :: byte payload.length :: kind :: payload) =
      some (.check (byte payload.length :: kind :: payload)) ∧
    linkFrame kind payload = 0x5A#8 :: byte payload.length :: kind :: (payload ++ [linkCheck kind payload])) ∧
  (∀ (cs : List Byte) (n : Nat), 1 ≤ n →
    (cs.length = n → (Receiver.skip n).feed cs = some .hunt) ∧
    (cs.length < n → (Receiver.skip n).feed cs = some (.skip (n - cs.length)))) ∧
  (∀ r : Request, r.WellFormed →
    (requestPayload r).length ≤ 120 ∧ readRequest (requestKind r) (requestPayload r) = some r) ∧
  (∀ (kind : Byte) (payload : List Byte), readRequest kind payload = none ↔ ∀ r, requestKind r ≠ kind) ∧
  (∀ s : State, s.link.receiver = .hunt →
    (∀ r : Request, r.WellFormed →
      s.receiveAll (linkFrame (requestKind r) (requestPayload r)) = s.arriveWhole r ∧
      s.arrive r = s.arriveWhole r) ∧
    (∀ (kind : Byte) (payload : List Byte), payload.length ≤ 120 →
      ((∀ r, requestKind r ≠ kind) →
        s.receiveAll (linkFrame kind payload) = s.linkError .unknownKind (some kind) .hunt) ∧
      ∀ check, check ≠ linkCheck kind payload →
        s.receiveAll (0x5A#8 :: byte payload.length :: kind :: (payload ++ [check])) =
          s.linkError .check (some kind) .hunt) ∧
    (∀ n : Byte, 120 < n.toNat → s.receiveAll [0x5A#8, n] = s.linkError .length none (.skip (n.toNat + 2)))) ∧
  (∀ (s : State) (n : Nat), s.link.receiver = .skip n → ∀ (c : Instr) (r : Request), requestOf c = some r →
    (requestPayload r).length + 4 < n → Machine.exec c s =
      .next { s with link := ⟨.skip (n - ((requestPayload r).length + 4)), 0, s.link.queue⟩ })

/-- A broken or unknown frame, while the queue has room, takes its place in reply order as a LINK ERROR with its code
and the kind byte received, and changes nothing but the link: an unknown kind, a wrong check, a length above 120
(which leaves the receiver in SKIP for the stated length plus 2 characters), a framing fault and a stall inside a
frame. Outside a frame a framing fault and a stall draw no reply: a faulty character is discarded in HUNT and counted
in SKIP, and a stall ends SKIP (the characters before the fault come with the command, log 7). -/
def Obligations.BrokenFramesAreAnsweredInTheirPlace : Prop :=
  (∀ (s : State) (chars : List Byte),
    (s.link.receiver.feed chars = some .hunt →
      Machine.exec (.linkFramingFault chars) s = .next { s with link := ⟨.hunt, 0, s.link.queue⟩ }) ∧
    (∀ n, s.link.receiver.feed chars = some (.skip n) →
      Machine.exec (.linkFramingFault chars) s =
        .next { s with link := ⟨if n ≤ 1 then .hunt else .skip (n - 1), 0, s.link.queue⟩ } ∧
      (chars ≠ [] ∨ 50 ≤ s.link.stall →
        Machine.exec (.linkStallTimeout chars) s = .next { s with link := ⟨.hunt, 0, s.link.queue⟩ }))) ∧
  (∀ s : State, s.link.queue.length < 4 →
    (∀ f : UnknownFrame, s.link.receiver = .hunt → f.payload.length ≤ 120 → (∀ r, requestKind r ≠ f.kind) →
      Machine.exec (.unknownKind f) s = .next { s with link := s.link.errored .unknownKind (some f.kind) .hunt }) ∧
    (∀ (kind : Byte) (payload : List Byte) (check : Byte), s.link.receiver = .hunt → payload.length ≤ 120 →
      check ≠ linkCheck kind payload → Machine.exec (.linkCheckError kind payload check) s =
        .next { s with link := s.link.errored .check (some kind) .hunt }) ∧
    (∀ n : Byte, s.link.receiver = .hunt → 120 < n.toNat →
      Machine.exec (.linkLengthError n) s =
        .next { s with link := s.link.errored .length none (.skip (n.toNat + 2)) }) ∧
    (∀ (chars : List Byte) (r : Receiver), s.link.receiver.feed chars = some r → r.inFrame = true →
      Machine.exec (.linkFramingFault chars) s =
        .next { s with link := s.link.errored .check r.kindByte .hunt }) ∧
    (∀ (chars : List Byte) (r : Receiver), s.link.receiver.feed chars = some r → r.inFrame = true →
      chars ≠ [] ∨ 50 ≤ s.link.stall →
      Machine.exec (.linkStallTimeout chars) s =
        .next { s with link := s.link.errored .timeout r.kindByte .hunt }))

/-- An arrival that finds 4 entries in the queue has no effect but one more OVERRUN owed to the newest entry, with the
kind byte received (log 26); at 255 owed it is not answered at all. With the receiver in HUNT it holds for every
request, well formed or not, and for a frame of an unknown kind, with a wrong check or a length above 120. The reply
being sent is the own reply of the head entry until that has gone out, and then one LINK ERROR with the code OVERRUN
for each unit owed with it, each with the kind byte received with its overrun (log 26). When the last character of the
reply being sent has gone out, the head entry leaves if no OVERRUN is owed with it; else its owed replies go out one
by one, and it leaves with the last of them, and the next entry's reply, where it is built, is sent. Nothing but the
queue changes. -/
def Obligations.OverrunsAreOwedAndRepliesLeaveInOrder : Prop :=
  (∀ (s : State) (earlier : List QueueEntry) (e : QueueEntry), s.link.queue = earlier ++ [e] → 4 ≤ s.link.queue.length →
      s.link.receiver = .hunt →
      let owing (kind : Option Byte) (r : Receiver) : State := { s with
        link := ⟨r, 0, earlier ++ [if e.owed.length < 255 then { e with owed := e.owed ++ [kind] } else e]⟩ }
      (∀ c r, requestOf c = some r → Machine.exec c s = .next (owing (some (requestKind r)) .hunt)) ∧
      (∀ f : UnknownFrame, f.payload.length ≤ 120 → (∀ r, requestKind r ≠ f.kind) →
        Machine.exec (.unknownKind f) s = .next (owing (some f.kind) .hunt)) ∧
      (∀ kind payload check, payload.length ≤ 120 → check ≠ linkCheck kind payload →
        Machine.exec (.linkCheckError kind payload check) s = .next (owing (some kind) .hunt)) ∧
      (∀ n : Byte, 120 < n.toNat →
        Machine.exec (.linkLengthError n) s = .next (owing none (.skip (n.toNat + 2))))) ∧
  (∀ (s : State) (e : QueueEntry) (rest : List QueueEntry), s.link.queue = e :: rest → e.reply.isSome = true →
      let queued (q : List QueueEntry) : State := { s with link := { s.link with queue := q } }
      let overrun (k : Option Byte) : Option Reply := some (.linkError .overrun k)
      let nextSent (t : State) : Prop := ∀ f fs, rest = f :: fs → f.sent = false → t.link.sending = f.reply
      (e.sent = false → s.link.sending = e.reply) ∧
      ((∀ p, e.request ≠ some (.restart p)) → e.sent = false → e.owed = [] → ∃ t,
        Machine.exec .replySent s = .next t ∧ t = queued rest ∧ nextSent t) ∧
      (∀ k ks, (∀ p, e.request ≠ some (.restart p)) → e.sent = false → e.owed = k :: ks → ∃ t,
        Machine.exec .replySent s = .next t ∧ t = queued ({ e with sent := true } :: rest) ∧ t.link.sending = overrun k) ∧
      (∀ k, e.sent = true → e.owed = [k] → s.link.sending = overrun k ∧ ∃ t,
        Machine.exec .replySent s = .next t ∧ t = queued rest ∧ nextSent t) ∧
      (∀ k l ks, e.sent = true → e.owed = k :: l :: ks → s.link.sending = overrun k ∧ ∃ t,
        Machine.exec .replySent s = .next t ∧ t = queued ({ e with owed := l :: ks } :: rest) ∧ t.link.sending = overrun l))

/-- While the queue has room and the receiver hunts, a known kind whose payload is no form of its request is answered
BAD VALUE under its own reply kind, at once. A RESTART that arrives is queued untaken, and so is every well-formed
request that arrives while an entry waits; nothing but the link changes. When the reply of a performed RESTART has
been sent, the requests that wait behind it are taken in their order, each against the part as it then stands (log 24)
and as one that arrives is, up to the next RESTART; the error replies owed among them keep their places, and the
RESTART stays at the head while OVERRUNs are owed with it. A DETACH so taken leaves the receiver as it stands (the
model's choice, log 44). -/
def Obligations.RequestsWaitBehindARestart : Prop :=
  (∀ (s : State) (c : Instr) (r : Request), requestOf c = some r → requestBad r = true → s.link.queue.length < 4 →
    s.link.receiver = .hunt →
    Machine.exec c s = .next { s with link := ⟨.hunt, 0, s.link.queue ++
      [⟨none, some (.answer (requestKind r + 0x80#8) .badValue .empty), false, []⟩]⟩ }) ∧
  (∀ s : State, s.link.queue.length < 4 → s.link.receiver = .hunt →
    Machine.exec (.restart (.form ())) s =
      .next { s with link := ⟨.hunt, 0, s.link.queue ++ [⟨some (.restart (.form ())), none, false, []⟩]⟩ }) ∧
  (∀ (s : State) (c : Instr) (r : Request), requestOf c = some r → requestBad r = false → s.link.queue.length < 4 →
    s.link.receiver = .hunt → (∃ e ∈ s.link.queue, e.reply = none) →
    Machine.exec c s = .next { s with link := ⟨.hunt, 0, s.link.queue ++ [⟨some r, none, false, []⟩]⟩ }) ∧
  (∀ (s : State) (c : Instr) (r : Request), requestOf c = some r → requestBad r = false → isRestart r = false →
    s.link.Ready →
    let x := takeRequest r { s with link := ⟨.hunt, 0, s.link.queue⟩ }
    Machine.exec c s = .next { x.2 with
      link := ⟨.hunt, 0, s.link.queue ++ [⟨some r, some (requestReply r x.1), false, []⟩]⟩ }) ∧
  (∀ (s : State) (e : QueueEntry) (rest : List QueueEntry), s.link.queue = e :: rest →
    e.request = some (.restart (.form ())) → e.reply.isSome = true → e.sent = false →
    let head : List QueueEntry := if e.owed = [] then [] else [{ e with sent := true }]
    let take (x : List QueueEntry × Bool × State) (w : QueueEntry) : List QueueEntry × Bool × State :=
      match w.request, w.reply with
      | some r, none =>
        if x.2.1 = true ∨ isRestart r = true then (x.1 ++ [w], true, x.2.2)
        else
          let y := takeRequest r x.2.2
          (x.1 ++ [{ w with reply := some (requestReply r y.1) }], false, y.2)
      | _, _ => (x.1 ++ [w], x.2.1, x.2.2)
    let x := rest.foldl take (head, false, { s with link := { s.link with queue := head ++ rest } })
    Machine.exec .replySent s = .next { x.2.2 with link := { s.link with queue := x.1 } }) ∧
  (∀ (s : State) (e w : QueueEntry) (rest : List QueueEntry), s.link.queue = e :: w :: rest →
    e.request = some (.restart (.form ())) → e.reply.isSome = true → e.sent = false →
    w.request = some (.detach (.form ())) → w.reply = none → rest.all (fun q => q.reply.isSome) = true →
    ∃ t, Machine.exec .replySent s = .next t ∧ t.dir.numbering = .detached ∧
      (s.dir.numbering ≠ .detached → t.race.phase = .detached) ∧
      t.link.receiver = s.link.receiver ∧ t.link.stall = s.link.stall)

/-! ## Power, RESET and RESTART -/

/-- After power-on and after the RESET pin every block stands at its reset values, with the serial of the fuses and
the straps last sampled (log 6); no notice waits, and ATTN is high. A RESTART at the head of the queue, its turn come,
returns every block to its power-on values but for the serial, the straps, the six SETUP fields, the track, and the
receiver and later entries of the link; the role is FOLLOWER, or INELIGIBLE with eligibility off; the one notice is
PHASE DETACHED from the phase held before; and the RESTART's reply DONE is built. With an own frame on the line the
Outbound Table is purged and the controller is leaving; the return is then made when that frame ends, however it ends.
That everything else stands as it is until then, and that PHASE names the phase held at the return, is the model's
choice (log 24). -/
def Obligations.ResetsReturnToPowerOn : Prop :=
  (∀ (x : Straps) (s : State),
    let t : State := { State.reset with
      dir := { State.reset.dir with serial := s.dir.serial }, straps := x, pending := s.pending }
    Machine.exec (.powerOn x) s = .next t ∧ Machine.exec (.resetPin x) s = .next t ∧
      t.notices.list = [] ∧ t.attnLow = false) ∧
  (∀ (s : State) (e : QueueEntry) (rest : List QueueEntry), s.link.queue = e :: rest →
    e.request = some (.restart (.form ())) → e.reply = none →
    let onLine : Prop := s.bus.line = .arbitrating ∨ s.bus.line = .sending
    let returned : State := {
      track := s.track
      cars := []
      order := ⟨[], List.replicate 64 none, none, none, none, none⟩
      race := State.reset.race
      finish := ⟨0, [], none⟩
      clock := { State.reset.clock with
        eligible := s.clock.eligible, beatPeriod := s.clock.beatPeriod, timeout := s.clock.timeout
        latency := s.clock.latency, role := if s.clock.eligible then .follower else .ineligible }
      dir := { State.reset.dir with serial := s.dir.serial, pin := s.dir.pin, label := s.dir.label }
      bus := State.reset.bus
      notices := ⟨[⟨0, .phase .detached s.race.phase none none⟩], 0⟩
      link := ⟨s.link.receiver, s.link.stall, { e with reply := some (.answer 0x85#8 .done .empty) } :: rest⟩
      straps := s.straps
      pending := s.pending }
    (¬onLine ∨ s.bus.inFlight = none → Machine.exec .restartPerformed s = .next returned) ∧
    (∀ fl, s.bus.inFlight = some fl → onLine →
      Machine.exec .restartPerformed s = .next { s with bus := { s.bus with
        outbound := Outbound.empty, inFlight := some { fl with purged := some .detach }, leaving := .toRestart } } ∧
      (s.bus.leaving = .toRestart → fl.purged = some .detach →
        (∀ acknowledged objected, Machine.exec (.attemptEnd acknowledged objected) s = .next returned) ∧
        Machine.exec .mismatch s = .next returned ∧
        (s.bus.line = .arbitrating → Machine.exec .arbitrationLost s = .next returned) ∧
        Machine.exec .busStuck s = .next returned)))

/-! ## The questions -/

/-- ASK CAR by its table (R46): a station above 7 or a slot outside 1 to 8 is BAD VALUE; an unmapped slot, or a
station without a record, is NO SUCH CAR; otherwise DONE with the record, its extrapolated progress, its position and
its gap at this moment. The reply changes nothing but the link. The extrapolated progress (R22, R23) is absent without
a track or without P; it is P run forward by the last report's speed over its age, at most the extrapolation cap for a
RACING car and the coast cap for a SILENT car under COAST, the quotient truncated toward zero; and the recorded P in
every other state and in RESULTS. It differs from P by at most |v|·cap/10,000, truncated. -/
def Obligations.AskCarAnswersByItsTable : Prop :=
  (∀ (s : State) (c : CarRecord),
    (s.track = none ∨ c.p = none → extrapolated s c = none) ∧
    (∀ track p, s.track = some track → c.p = some p →
      let coasting : Prop := c.state = .silent ∧ s.race.options.policy = .coast
      (s.race.phase = .results ∨ (c.state ≠ .racing ∧ ¬coasting) → extrapolated s c = some p) ∧
      (∀ r, c.report = some r → s.race.phase ≠ .results → ∀ cap : Nat,
        (c.state = .racing ∧ cap = s.race.options.extrapolationCap) ∨ (coasting ∧ cap = s.race.options.coastCap) →
          extrapolated s c = some (p + (r.v * (min (s.clock.time - r.stamp) cap : Nat)).tdiv 10000) ∧
          ∃ x, extrapolated s c = some x ∧ (x - p).natAbs ≤ r.v.natAbs * cap / 10000))) ∧
  ∀ s : State, s.link.Ready →
    let answers (n : CarName) (a : Answer) : Prop :=
      Machine.exec (.askCar (.form n)) s = .next { s with link := s.link.answered (.askCar (.form n)) a }
    let shown (c : CarRecord) : Answer :=
      ⟨.done, .askCar ⟨s.clock.time, c, extrapolated s c, placeOf c.station s.order.order, s.gapOf c⟩⟩
    (∀ n, 7 < n → answers (.station n) ⟨.badValue, .empty⟩) ∧
    (∀ k, k < 1 ∨ 8 < k → answers (.slot k) ⟨.badValue, .empty⟩) ∧
    (∀ k, 1 ≤ k → k ≤ 8 → (∀ e ∈ s.dir.slots, e.slot ≠ k) → answers (.slot k) ⟨.noSuchCar, .empty⟩) ∧
    (∀ n, n ≤ 7 → s.car? n = none → answers (.station n) ⟨.noSuchCar, .empty⟩) ∧
    (∀ n c, n ≤ 7 → s.car? n = some c → answers (.station n) (shown c)) ∧
    (∀ k e, 1 ≤ k → k ≤ 8 → s.dir.slots.find? (·.slot == k) = some e →
      (s.car? e.station = none → answers (.slot k) ⟨.noSuchCar, .empty⟩) ∧
      (∀ c, s.car? e.station = some c → answers (.slot k) (shown c)))

/-- ASK ORDER answers DONE with the running order as it stands; its order-incomplete mark is set exactly while no
results list is held and the verdict count passes the number of records that hold a position. It changes nothing but
the link. A car's gap is absent before its first boundary, the time since the ring's crossing of the same boundary,
saturated, and whole laps behind the leading boundary where the ring's entry has gone on to another. ASK RESULTS
answers DONE with the list held, each tf elapsed beside its time form; ASK STATUS answers DONE with what every block
holds, and with the clear option sets the receive error and dropped-report counts to 0 after the reply is built.
Neither changes anything else but the link. -/
def Obligations.QuestionsAnswerWithTheStateHeld : Prop :=
  ((∀ s : State, s.link.Ready →
      ∃ r : OrderReply,
        Machine.exec (.askOrder (.form ())) s =
          .next { s with link := s.link.answered (.askOrder (.form ())) ⟨.done, .askOrder r⟩ } ∧
        r.time = s.clock.time ∧ r.phase = s.race.phase ∧ r.raceNumber = s.race.raceNumber ∧
        r.leading = s.order.leading ∧ r.fastest = s.order.fastest ∧
        (r.incomplete = true ↔ s.finish.results = none ∧
          (s.cars.filter fun c => c.position.isSome).length < s.finish.verdictCount) ∧
        ((∀ st ∈ s.order.order, (s.car? st).isSome = true) →
          r.cars.length = s.order.order.length ∧
          ∀ (i st : Nat) (c : CarRecord), s.order.order[i]? = some st → s.car? st = some c →
            r.cars[i]? = some ⟨i + 1, c.station, c.slot, c.state, c.laps, c.crossed.map Crossing.index,
              c.crossed.any Crossing.unconfirmed, s.gapOf c, c.bestLap, c.position, c.marks,
              c.officialTf.or c.provisionalTf⟩)) ∧
    (∀ (s : State) (c : CarRecord) (t : Track), s.track = some t →
      (c.crossed = none → s.gapOf c = .absent) ∧
      (∀ x, c.crossed = some x →
        (∀ time, s.order.ring.getD (x.index % 64) none = some ⟨x.index, time⟩ →
          s.gapOf c = .time (min (x.time - time) 4294967295)) ∧
        (∀ lead, s.order.leading = some lead →
          (∀ time, s.order.ring.getD (x.index % 64) none ≠ some ⟨x.index, time⟩) →
          s.gapOf c = .laps ((lead - x.index) / t.S))))) ∧
  (∀ s : State, s.link.Ready →
      (∃ r : ResultsReply,
        Machine.exec (.askResults (.form ())) s =
          .next { s with link := s.link.answered (.askResults (.form ())) ⟨.done, .askResults r⟩ } ∧
        r.time = s.clock.time ∧ r.phase = s.race.phase ∧ r.raceNumber = s.race.raceNumber ∧
        (r.list = none ↔ s.finish.results = none) ∧
        ∀ l, s.finish.results = some l → r.list = some (l.raceNumber, l.entries.map fun e =>
          ⟨e, match e.tfElapsed with
            | some t => some (if 60000000 ≤ t then ⟨99, 59, 999, true⟩
                else ⟨t / 600000, t % 600000 / 10000, t % 10000 / 10, false⟩)
            | none => none⟩)) ∧
      (∀ clear : Bool, ∃ r : StatusReply,
        Machine.exec (.askStatus (.form clear)) s = .next { s with
          bus := if clear then { s.bus with receiveErrors := 0, droppedReports := 0 } else s.bus
          link := s.link.answered (.askStatus (.form clear)) ⟨.done, .askStatus r⟩ } ∧
        r.serial = s.dir.serial ∧
        r.settings = ⟨s.dir.pin, s.clock.eligible, s.clock.beatPeriod, s.clock.timeout, s.clock.latency, s.dir.label⟩ ∧
        r.straps = s.straps ∧ r.numbering = s.dir.numbering ∧ r.number = s.dir.number ∧
        r.entryCount = s.dir.entries.length ∧ r.liveCount = (s.dir.entries.filter fun e => e.live).length ∧
        r.stations = s.dir.entries.map (fun e => ⟨e.number, e.live, e.info⟩) ∧
        r.time = s.clock.time ∧ r.holdOff = s.clock.holdOff ∧ r.followed = s.clock.followed ∧
        r.conflict = s.clock.conflict ∧ r.role = s.clock.role ∧ r.referee = s.clock.referee ∧
        r.phase = s.race.phase ∧ r.raceNumber = s.race.raceNumber ∧
        r.track = s.track.map (fun t => (t.id, t.L, t.S, t.signature)) ∧ r.line = s.bus.line ∧
        r.receiveErrors = s.bus.receiveErrors ∧ r.droppedReports = s.bus.droppedReports ∧
        r.superseded = s.bus.superseded ∧ r.noticesWaiting = s.notices.list.length ∧
        r.noticesDropped = s.notices.dropped))

/-- TIME FORM converts the count it carries (R120 to R122): minutes, seconds and milliseconds with the tenth dropped,
99:59.999 and the saturated flag from 60,000,000 on; a gap by its magnitude, with the sign minus below 0; ADJUSTED
when the form saturated, DONE otherwise, and BAD VALUE for a kind that names neither. The digits go out packed, and
nothing but the link changes. -/
def Obligations.TimeFormConvertsACount : Prop :=
  ∀ s : State, s.link.Ready →
    let form (e : Nat) : TimeForm :=
      if 60000000 ≤ e then ⟨99, 59, 999, true⟩ else ⟨e / 600000, e % 600000 / 10000, e % 10000 / 10, false⟩
    let result (e : Nat) : ResultCode := if 60000000 ≤ e then .adjusted else .done
    let answers (v : TimeValue) (a : Answer) : Prop :=
      Machine.exec (.timeForm (.form v)) s = .next { s with link := s.link.answered (.timeForm (.form v)) a }
    (∀ e, answers (.elapsed e) ⟨result e, .timeForm false (form e)⟩) ∧
    (∀ g : Int, answers (.gap g) ⟨result g.natAbs, .timeForm (decide (g < 0)) (form g.natAbs)⟩) ∧
    (∀ k, answers (.otherKind k) ⟨.badValue, .empty⟩) ∧
    (∀ e, (form e).minutes ≤ 99 ∧ (form e).seconds ≤ 59 ∧ (form e).milliseconds ≤ 999) ∧
    (∀ (minus : Bool) (e : Nat), timeFormBytes minus (form e) =
      [byte (16 * ((form e).minutes / 10) + (form e).minutes % 10),
        byte (16 * ((form e).seconds / 10) + (form e).seconds % 10), byte ((form e).milliseconds / 100),
        byte (16 * ((form e).milliseconds / 10 % 10) + (form e).milliseconds % 10),
        byte ((form e).saturated.toNat + 2 * minus.toNat)])

/-! ## SETUP, TRACK, ATTACH and DETACH -/

/-- SETUP is refused REFUSED STATE outside DETACHED and LOBBY and BAD VALUE for a pin code that is neither a number
nor "none", and then stores nothing. Taken in DETACHED it stores its six fields clamped, ADJUSTED when a clamp changed
one, and the role follows eligibility (log 25); nothing else changes. -/
def Obligations.SetupIsStored : Prop :=
  ∀ (s : State) (f : SetupFields), s.link.Ready →
    let request : Request := .setup (.form f)
    let pin : Option Nat := if f.pin ≤ 7 then some f.pin else none
    let stored : Settings := ⟨pin, f.eligible != 0, max 20 (min f.beatPeriod 500), max 3 (min f.timeout 16),
      min f.latency 100, f.label.take 8⟩
    let clamped : Bool := decide (f.beatPeriod < 20 ∨ 500 < f.beatPeriod ∨ f.timeout < 3 ∨ 16 < f.timeout ∨
      100 < f.latency ∨ 8 < f.label.length)
    (s.race.phase ≠ .detached → s.race.phase ≠ .lobby →
      Machine.exec (.setup (.form f)) s = .next { s with link := s.link.answered request ⟨.refusedState, .empty⟩ }) ∧
    (s.race.phase = .detached ∨ s.race.phase = .lobby → 7 < f.pin → f.pin ≠ 255 →
      Machine.exec (.setup (.form f)) s = .next { s with link := s.link.answered request ⟨.badValue, .empty⟩ }) ∧
    (s.race.phase = .detached → s.dir.numbering = .detached → s.clock.role ≠ .acting → f.pin ≤ 7 ∨ f.pin = 255 →
      Machine.exec (.setup (.form f)) s = .next { s with
        dir := { s.dir with pin := pin, label := stored.label }
        clock := { s.clock with
          eligible := stored.eligible, beatPeriod := stored.beatPeriod, timeout := stored.timeout
          latency := stored.latency
          role := if s.clock.eligible = stored.eligible then s.clock.role
            else if !stored.eligible then .ineligible
            else if s.clock.role = .ineligible then .follower else s.clock.role
          candidate := if s.clock.eligible = stored.eligible ∨ stored.eligible = true then s.clock.candidate else none }
        link := s.link.answered request ⟨if clamped then .adjusted else .done, .setup stored⟩ })

/-- A SETUP in LOBBY whose pin names another number than the one held releases the number and listens again with a
fresh deadline: phase CLAIMING, no race number, the own entry and record gone, RELEASED with the cause PIN. One that
keeps the number and changes the pin setting or the label deposits one ANNOUNCE with what it stored. A moved pin
raises REFEREE with NUMBER LOST (when acting), LIGHTS where the lights count falls to 0, PHASE, REMOVED for each
station unheard too long, and RELEASED with the cause PIN, in that order (the model's choice, logs 21 and 22, and 52
for REMOVED; no search follows the removals, log 59), and purges the Outbound Table; only frames in flight stay,
their end without further effect. A pin, label or eligibility changed under the number kept is taken by the own entry
and announced; with eligibility the role changes: INELIGIBLE, leaving ACTING with REFEREE where it acted, or FOLLOWER
with the watchdog restarted. Moved pin and changed eligibility together leave LISTENING with the new role,
unannounced. -/
def Obligations.SetupInLobbyActsOnTheNumber : Prop :=
  (∀ (s : State) (f : SetupFields) (own : Nat), s.link.Ready → s.race.phase = .lobby → s.dir.numbering = .numbered →
      s.dir.number = some own → (f.eligible != 0) = s.clock.eligible → s.clock.role = .follower →
      let pin : Option Nat := if f.pin ≤ 7 then some f.pin else none
      let stored : Settings := ⟨pin, f.eligible != 0, max 20 (min f.beatPeriod 500), max 3 (min f.timeout 16),
        min f.latency 100, f.label.take 8⟩
      let clock : RaceClock := { s.clock with
        eligible := stored.eligible, beatPeriod := stored.beatPeriod, timeout := stored.timeout
        latency := stored.latency }
      let link := s.link.answered (.setup (.form f)) ⟨doneOr (setupAdjusted f), .setup stored⟩
      (f.pin ≤ 7 → f.pin ≠ own → ∃ t, Machine.exec (.setup (.form f)) s = .next t ∧
        t.dir.pin = pin ∧ t.dir.label = f.label.take 8 ∧ t.dir.numbering = .listening ∧ t.dir.number = none ∧
        t.dir.listenDeadline = some (s.clock.time + 8 * clock.working) ∧ t.clock = clock ∧
        t.race = { RaceControl.initial with
          phase := .claiming, options := s.race.options, trackRef := s.race.trackRef } ∧
        (∀ e ∈ t.dir.entries, e.number ≠ own) ∧ (∀ c ∈ t.cars, c.station ≠ own) ∧ t.finish = ⟨0, [], none⟩ ∧
        t.bus.line = s.bus.line ∧ t.track = s.track ∧ t.straps = s.straps ∧ t.link = link) ∧
      (f.pin = own ∨ f.pin = 255 → own ≤ 7 → pin ≠ s.dir.pin ∨ f.label.take 8 ≠ s.dir.label →
        ∃ t, Machine.exec (.setup (.form f)) s = .next t ∧
        t.dir = { s.dir with pin := pin, label := f.label.take 8, entries := t.dir.entries } ∧
        (s.flying .announce = false →
          t.bus.outbound = { s.bus.outbound with announce :=
            ⟨some ⟨.announce ⟨s.dir.serial, pin.isSome, s.clock.eligible, f.label.take 8⟩, 0⟩,
              s.bus.outbound.announce.followUp⟩ }) ∧
        t.race = s.race ∧ t.cars = s.cars ∧ t.order = s.order ∧ t.finish = s.finish ∧ t.notices = s.notices ∧
        t.clock = clock ∧ t.track = s.track ∧ t.straps = s.straps ∧ t.link = link)) ∧
  (∀ (s : State) (f : SetupFields) (own : Nat), s.link.Ready → s.race.phase = .lobby → s.dir.numbering = .numbered →
      s.dir.number = some own →
      let o := s.bus.outbound
      let pin : Option Nat := if f.pin ≤ 7 then some f.pin else none
      let eligible : Bool := f.eligible != 0
      let stored : Settings := ⟨pin, eligible, max 20 (min f.beatPeriod 500), max 3 (min f.timeout 16),
        min f.latency 100, f.label.take 8⟩
      let clock : RaceClock := { s.clock with
        eligible := eligible, beatPeriod := stored.beatPeriod, timeout := stored.timeout, latency := stored.latency }
      let run : Nat := min (stored.timeout * s.clock.followed.getD stored.beatPeriod) 65536
      let resigned (role : Role) : RaceClock :=
        { clock with role := role, beatTimer := none, referee := none, watchdog := some run }
      let resting : Role := if eligible then .follower else .ineligible
      let link := s.link.answered (.setup (.form f)) ⟨doneOr (setupAdjusted f), .setup stored⟩
      let info : StationInfo := ⟨s.dir.serial, pin.isSome, eligible, f.label.take 8⟩
      let kept : Directory := { s.dir with
        pin := pin, label := f.label.take 8
        entries := match s.dir.entry? own with
          | some e => insertEntry { e with info := some info } s.dir.entries
          | none => s.dir.entries }
      (f.pin ≤ 7 → f.pin ≠ own →
        let gone : State := if (s.car? own).isSome then
          ({ s with cars := s.cars.filter fun c => c.station ≠ own } : State).reevaluate else s
        let expired := s.dir.entries.filter fun e => decide (e.number ≠ own) && decide (e.lastHeard + 200 * e.unit ≤ s.clock.time)
        ∃ t, Machine.exec (.setup (.form f)) s = .next t ∧
          t.dir = { s.dir with
            pin := pin, label := f.label.take 8, numbering := .listening, number := none, slots := []
            listenDeadline := some (s.clock.time + 8 * s.clock.followed.getD stored.beatPeriod)
            entries := s.dir.entries.filter fun e => decide (e.number ≠ own) && !expired.any fun x => x.number == e.number } ∧
          t.notices = (gone.raiseAll ((if s.clock.role = .acting then [.referee resting none .numberLost] else []) ++
            (if s.race.lights = 0 then [] else [.lights 0 none]) ++ [.phase .claiming .lobby none none] ++
            expired.map (fun e => .station .removed e.number none .listening) ++
            [.station .released own (some .pin) .listening])).notices ∧
          (eligible = s.clock.eligible → t.clock = if s.clock.role = .acting then resigned resting else clock) ∧
          (s.clock.role ≠ .acting → s.clock.eligible = true → eligible = false →
            t.clock = { clock with role := .ineligible, candidate := none }) ∧
          (s.clock.role = .ineligible → s.clock.eligible = false → eligible = true →
            t.clock = { clock with role := .follower, watchdog := some run }) ∧
          (s.clock.role = .acting → s.clock.eligible = true → eligible = false →
            t.clock = { resigned .ineligible with candidate := none }) ∧
          (s.clock.role = .acting → s.clock.eligible = false → eligible = true → t.clock = resigned .follower) ∧
          (∀ k, t.bus.outbound.followUp k = none ∧
            t.bus.outbound.frames k = if s.flying k then (o.frames k).take 1 else []) ∧
          t.bus.inFlight = s.bus.inFlight.map (fun fl =>
            { fl with purged := if fl.purged = some .detach then fl.purged else some .raceOrNumber }) ∧
          t.link = link) ∧
      (f.pin = own ∨ f.pin = 255 → own ≤ 7 →
        ((eligible = s.clock.eligible → pin = s.dir.pin → f.label.take 8 = s.dir.label →
          Machine.exec (.setup (.form f)) s = .next { s with clock := clock, link := link }) ∧
        (eligible = s.clock.eligible → pin ≠ s.dir.pin ∨ f.label.take 8 ≠ s.dir.label →
          ∃ t, Machine.exec (.setup (.form f)) s = .next t ∧ t.dir = kept ∧ t.clock = clock ∧ t.notices = s.notices) ∧
        (eligible ≠ s.clock.eligible → ∃ t, Machine.exec (.setup (.form f)) s = .next t ∧
          t.dir = kept ∧ t.link = link ∧ t.cars = s.cars ∧ t.order = s.order ∧ t.track = s.track ∧
          (s.flying .announce = false → t.bus.outbound.announce = ⟨some ⟨.announce info, 0⟩, o.announce.followUp⟩) ∧
          (s.clock.role ≠ .acting → t.race = s.race ∧ t.finish = s.finish ∧ t.notices = s.notices) ∧
          (s.clock.role ≠ .acting → eligible = false →
            t.clock = { clock with role := .ineligible, candidate := none }) ∧
          (s.clock.role = .acting → eligible = false → t.clock = resigned .ineligible ∧
            t.race = { s.race with holdTable := [], remainder := none, entryDeadline := none, graceDeadline := none } ∧
            t.finish = { s.finish with waiting := [] } ∧
            t.notices = s.notices.accept ⟨s.clock.time, .referee .ineligible none .eligibility⟩) ∧
          (s.clock.role = .ineligible → eligible = true → t.clock = { clock with role := .follower, watchdog := some run })))))

/-- TRACK by its checks (R2): REFUSED STATE outside DETACHED and LOBBY; BAD VALUE for geometry out of range; otherwise
DONE with the CRC-16 of its fields as the signature, the whole record loaded as carried. In LOBBY the measures of
every record return to absent and 0, and a last report's lap distance is brought below the new L (R3). Nothing else
changes. -/
def Obligations.TrackIsLoadedWhole : Prop :=
  ∀ (s : State) (f : TrackFields), s.link.Ready →
    let request : Request := .track (.form f)
    let allowed : Prop := s.race.phase = .detached ∨ s.race.phase = .lobby
    let bad : Prop := f.L < 10000 ∨ 4000000 < f.L ∨ f.S < 1 ∨ 8 < f.S ∨ f.starts.length ≠ f.S ∨
      f.starts[0]? ≠ some 0 ∨ (∃ i, i + 1 < f.starts.length ∧ f.starts.getD (i + 1) 0 ≤ f.starts.getD i 0) ∨
      f.L ≤ f.starts.getD (f.starts.length - 1) 0
    let signature : Crc16 := crc16 (beBytes 2 f.id ++ beBytes 4 f.L ++ beBytes 1 f.S ++ f.starts.flatMap (beBytes 4))
    (¬allowed →
      Machine.exec (.track (.form f)) s = .next { s with link := s.link.answered request ⟨.refusedState, .empty⟩ }) ∧
    (allowed → bad →
      Machine.exec (.track (.form f)) s = .next { s with link := s.link.answered request ⟨.badValue, .empty⟩ }) ∧
    (allowed → ¬bad →
      Machine.exec (.track (.form f)) s = .next { s with
        track := some ⟨f.id, f.L, f.S, f.starts, signature⟩
        cars := if s.race.phase = .lobby then s.cars.map fun c => { c with
            p := none, pmax := none, crossed := none, lineTime := none, lastLap := none, bestLap := none, laps := 0
            report := c.report.map fun r => { r with d := if f.L ≤ r.d then f.L - 1 else r.d } }
          else s.cars
        link := s.link.answered request ⟨.done, .track signature⟩ })

/-- ATTACH is refused REFUSED STATE unless DETACHED. Taken, it brings the line out of OFF (or to BUSY once a frame in
flight has ended, log 13), starts the watchdog with its full run, clears the conflict mark, and listens for 8 working
beat periods, in phase CLAIMING with PHASE raised. Nothing else changes. DETACH answers DONE and changes nothing in
numbering state DETACHED. In any other it empties the Outbound Table, leaves the line at once or at the end of an own
frame on it, leaves ACTING, clears the race and the race number, empties the directory and the Car Table, and raises
REFEREE (when acting), PHASE and STATION RELEASED (when numbered) in that order, without LIGHTS (R200 lists these
notices; beside R96 that is the model's choice, log 54). The track, the SETUP fields, the options, the counts and race
time stand as they were. -/
def Obligations.AttachListensAndDetachLeaves : Prop :=
  (∀ s : State, s.link.Ready →
      (s.dir.numbering ≠ .detached → Machine.exec (.attach (.form ())) s =
        .next { s with link := s.link.answered (.attach (.form ())) ⟨.refusedState, .empty⟩ }) ∧
      (s.dir.numbering = .detached → Machine.exec (.attach (.form ())) s = .next { s with
        bus := { s.bus with
          line := if s.bus.leaving = .no ∧ s.bus.line = .off then .busy else s.bus.line
          leaving := if s.bus.leaving = .no then .no else .toBusy }
        clock := { s.clock with
          conflict := false, watchdog := some (min (s.clock.timeout * s.clock.working) 65536) }
        dir := { s.dir with
          numbering := .listening, listenDeadline := some (s.clock.time + 8 * s.clock.working) }
        race := { s.race with phase := .claiming, enterPending := false, holdAsked := false }
        notices := s.notices.accept ⟨s.clock.time, .phase .claiming s.race.phase s.race.raceNumber none⟩
        link := s.link.answered (.attach (.form ())) ⟨.done, .empty⟩ })) ∧
  (∀ s : State, s.link.Ready →
      let resting : Role := if s.clock.eligible then .follower else .ineligible
      let raised : List NoticeBody :=
        (if s.clock.role = .acting then [.referee resting none .detach] else []) ++
          [.phase .detached s.race.phase none none] ++
          (match s.ownStation with
            | some k => [.station .released k (some .detach) .detached]
            | none => [])
      let onLine : Bool :=
        (decide (s.bus.line = .arbitrating) || decide (s.bus.line = .sending)) && s.bus.inFlight.isSome
      let link := s.link.answered (.detach (.form ())) ⟨.done, .empty⟩
      (s.dir.numbering = .detached → Machine.exec (.detach (.form ())) s = .next { s with link := link }) ∧
      (s.dir.numbering ≠ .detached → Machine.exec (.detach (.form ())) s = .next { s with
        cars := []
        order := ⟨[], List.replicate 64 none, none, none, none, none⟩
        race := { RaceControl.initial with options := s.race.options, trackRef := s.race.trackRef }
        finish := ⟨0, [], none⟩
        clock := { s.clock with
          followed := none, lastBeat := none, role := resting, referee := none, candidate := none
          watchdog := none, beatTimer := none, conflict := false }
        dir := { Directory.initial s.dir.serial with pin := s.dir.pin, label := s.dir.label }
        bus := { s.bus with
          line := if onLine then s.bus.line else .off
          leaving := if onLine then .toOff else .no
          outbound := Outbound.empty
          inFlight := s.bus.inFlight.map fun fl => { fl with purged := some .detach } }
        notices := raised.foldl (fun q b => q.accept ⟨s.clock.time, b⟩) s.notices
        link := link }))

/-! ## The host's race requests -/

/-- ENTER and LEAVE from the host. ENTER is refused REFUSED STATE outside ENTRY and TRACK MISMATCH without a track;
LEAVE is refused REFUSED STATE unless the own car is ENTERED, GRIDDED, RACING or SILENT. Taken, ENTER sets enter
pending and LEAVE clears enter pending and hold asked; a follower deposits the frame in the ENTRY slot, in the
follow-up place while one is in flight; the acting referee decides at once, its own ENTER with enter pending set
before (the model's choice, log 30): ENTER appends the own entry, or is refused for the track (also where the race
holds no signature, the model's choice, log 39) or a full list with ENTRY REFUSED, and ends enter pending; LEAVE
takes the entry off in ENTRY and, with the field still met, on the grid, with its hold row, and where no row holds
any more the countdown starts in GRID or the suspended one resumes with its remainder; it ends a race whose field
is too short, and retires a RACING or SILENT car, WITHDRAWN. Where no other entrant keeps that race open it ends:
the results list has one entry for each entrant with a record, in the order of R114, each with its car's status
(R115), slot, best lap and laps, and for one FINISHED with a position its position, marks and elapsed time (an
IDLE record as NOT CLASSIFIED and the ties of BENCHED entries are the model's choice, log 49; of the elapsed time
nothing is said without a G, log 2, or for a tf before it, log 55). -/
def Obligations.EnterAndLeaveAskTheReferee : Prop :=
  ∀ s : State, s.link.Ready →
    let placed (f : Frame) : Slot :=
      if s.flying .entry = true ∧ s.bus.outbound.entry.held.isSome = true then
        { s.bus.outbound.entry with followUp := some f }
      else { s.bus.outbound.entry with held := some ⟨f, 0⟩ }
    let sent (f : Frame) : BusController := { s.bus with outbound := { s.bus.outbound with entry := placed f } }
    let refused (r : Request) (code : ResultCode) : State := { s with link := s.link.answered r ⟨code, .empty⟩ }
    let n := s.race.raceNumber.getD 0
    let enter : Request := .enter (.form ())
    let leave : Request := .leave (.form ())
    let mayLeave : Prop := ∃ c, s.ownCar? = some c ∧
      (c.state = .entered ∨ c.state = .gridded ∨ c.state = .racing ∨ c.state = .silent)
    let left : RaceControl := { s.race with enterPending := false, holdAsked := false }
    (s.race.phase ≠ .entry → Machine.exec (.enter (.form ())) s = .next (refused enter .refusedState)) ∧
    (s.race.phase = .entry → s.track = none →
      Machine.exec (.enter (.form ())) s = .next (refused enter .trackMismatch)) ∧
    (∀ track, s.track = some track → s.race.phase = .entry → s.clock.role ≠ .acting →
      Machine.exec (.enter (.form ())) s = .next { s with
        race := { s.race with enterPending := true }
        bus := sent (.enter (s.race.raceNumber.getD 0) track.signature)
        link := s.link.answered enter ⟨.done, .empty⟩ }) ∧
    (∀ own, s.ownStation = some own → ∀ track, s.track = some track → s.race.phase = .entry → s.clock.role = .acting →
      let listed := s.race.entries.any fun e => e.station == own
      let reason : Option RefusalReason :=
        if listed = true then none
        else if s.race.trackRef.map TrackRef.signature ≠ some track.signature then some .trackMismatch
        else if 8 ≤ s.race.entries.length then some .full
        else none
      let entries : List Entry :=
        if listed = false ∧ reason = none then s.race.entries ++ [⟨own, none, .entered⟩] else s.race.entries
      let refusal : Option LastRefusal := match reason with
        | some x => some ⟨own, x⟩
        | none => s.race.lastRefusal
      ∃ t, Machine.exec (.enter (.form ())) s = .next t ∧
        t.race = { s.race with entries := entries, lastRefusal := refusal, enterPending := false } ∧
        t.link = s.link.answered enter ⟨.done, .empty⟩ ∧ t.clock = s.clock ∧ t.finish = s.finish ∧
        t.bus.outbound.control.getLast?.map Held.frame = some (.entries ⟨n, .entry, refusal, entries⟩) ∧
        (entries = s.race.entries → t.cars = s.cars ∧ t.order = s.order ∧ (s.bus.outbound.control.length < 4 →
          t.notices = (s.raiseAll (reason.map NoticeBody.entryRefused).toList).notices)) ∧
        (∀ c, s.ownCar? = some c → entries ≠ s.race.entries → c.state = .idle →
          t.car? own = some { c with state := .entered, slot := none })) ∧
    (¬mayLeave → Machine.exec (.leave (.form ())) s = .next (refused leave .refusedState)) ∧
    (mayLeave → s.clock.role ≠ .acting →
      Machine.exec (.leave (.form ())) s = .next { s with
        race := left, bus := sent (.leave (s.race.raceNumber.getD 0)), link := s.link.answered leave ⟨.done, .empty⟩ }) ∧
    (∀ own, s.ownStation = some own → ∀ c, s.ownCar? = some c → mayLeave → s.clock.role = .acting →
      let answered := s.link.answered leave ⟨.done, .empty⟩
      let listed := s.race.entries.any fun e => e.station == own
      let rest := s.race.entries.filter fun e => e.station ≠ own
      let short : Prop := (rest.filter fun e => e.state ≠ .benched).length < s.race.options.minimumField
      let onGrid : Prop := s.race.phase = .grid ∨ s.race.phase = .countdown
      let on : Prop := s.race.phase = .racing ∨ s.race.phase = .finishing
      let running (e : Entry) : Bool := decide (e.state ≠ .benched) && (s.car? e.station).any fun c =>
        decide (c.state ≠ .retired) && !(decide (c.state = .finished) && c.position.isSome)
      let others : Bool := s.race.entries.any fun e => e.station != own && running e
      let retire : Frame := .retire n own .withdrawn
      (listed = false ∨ (s.race.phase ≠ .entry ∧ ¬onGrid ∧ ¬on) ∨ (on ∧ c.state ≠ .racing ∧ c.state ≠ .silent) →
        Machine.exec (.leave (.form ())) s = .next { s with race := left, link := answered }) ∧
      (listed = true → s.race.phase = .entry ∨ (onGrid ∧ ¬short) → ∃ t, Machine.exec (.leave (.form ())) s = .next t ∧
        t.race.entries = rest ∧ t.race.enterPending = false ∧ t.race.holdAsked = false ∧ t.link = answered ∧
        t.clock = s.clock ∧
        (s.race.phase = .entry → t.race = { left with entries := rest }) ∧
        (onGrid →
          let rows : List HoldRow := s.race.holdTable.filter fun r => r.station ≠ own
          let last : Bool := rows.all fun r => r.holdStart.isNone
          t.race.holdTable = rows ∧
          (last = false ∨ (s.race.phase = .countdown ∧ s.race.green.isSome = true) →
            t.race.phase = s.race.phase ∧ t.race.green = s.race.green) ∧
          (last = true → s.race.phase = .grid → t.race.phase = .countdown ∧
            t.race.green = some (s.clock.time + s.race.options.lightsCount * s.race.options.lightInterval)) ∧
          (∀ remaining, s.race.remainder = some remaining → last = true → s.race.phase = .countdown →
            s.race.green = none → t.race.phase = .countdown ∧ t.race.green = some (s.clock.time + remaining) ∧
            t.race.remainder = none)) ∧
        t.bus.outbound.control.getLast?.map Held.frame =
          some (.entries ⟨n, s.race.phase, s.race.lastRefusal, rest⟩) ∧
        (c.state = .entered ∨ c.state = .gridded → t.car? own = some { c with state := .idle, slot := none })) ∧
      (listed = true → onGrid → short → ∃ t, Machine.exec (.leave (.form ())) s = .next t ∧ t.race.phase = .lobby ∧
        t.race.entries = [] ∧ t.race.green = none ∧ t.race.holdAsked = false ∧ t.link = answered) ∧
      (listed = true → on → c.state = .racing ∨ c.state = .silent → ∃ t, Machine.exec (.leave (.form ())) s = .next t ∧
        (∃ c', t.car? own = some c' ∧ c'.state = .retired ∧ c'.retireReason = some .withdrawn ∧ c'.silentSince = none ∧
          c'.p = c.p ∧ c'.laps = c.laps ∧ c'.report = c.report) ∧ t.link = answered ∧
        (others = true → t.race = left ∧ t.bus.outbound.control.getLast? = some ⟨retire, 0⟩) ∧
        (others = false →
          let retired : List CarRecord := s.cars.map fun (x : CarRecord) => if x.station = own then
            { x with
              state := .retired, retireReason := some .withdrawn, silentSince := none, provisionalTf := none
              marks := { x.marks with unconfirmed := false } }
            else x
          t.race.phase = .results ∧ ∃ list, t.finish.results = some ⟨n, list⟩ ∧
          ResultsShow s.race.green retired s.race.entries list ∧
          [retire, .results n list] <:+ t.bus.outbound.control.map Held.frame)))

/-- READY and HOLD from the host are taken in GRID and COUNTDOWN while the own car is GRIDDED, and refused REFUSED
STATE otherwise; HOLD is refused TOO LATE in COUNTDOWN once G lies at most the light interval ahead. Taken, HOLD sets
hold asked and READY clears it; a follower deposits a HOLD STATE in its slot, in the follow-up place while one is in
flight; the acting referee applies it at once to the own row: HOLD begins a hold in GRID, or in COUNTDOWN, which it
suspends with its remainder and LIGHTS 0; READY ends one, keeping the time held (bounded by the allowance, log 17),
and as the last one, with the field met, it starts the countdown with PHASE, or resumes the suspended one, with
LIGHTS. A wish the row already has, or of a station that is no starter, changes hold asked alone. -/
def Obligations.ReadyAndHoldAskTheReferee : Prop :=
  ∀ s : State, s.link.Ready →
    let placed (f : Frame) : Slot :=
      if s.flying .holdState = true ∧ s.bus.outbound.holdState.held.isSome = true then
        { s.bus.outbound.holdState with followUp := some f }
      else { s.bus.outbound.holdState with held := some ⟨f, 0⟩ }
    let request (holding : Bool) : Request := if holding then .hold (.form ()) else .ready (.form ())
    let command (holding : Bool) : Instr := if holding then .hold (.form ()) else .ready (.form ())
    let refused (holding : Bool) (code : ResultCode) : State :=
      { s with link := s.link.answered (request holding) ⟨code, .empty⟩ }
    let may : Prop := (s.race.phase = .grid ∨ s.race.phase = .countdown) ∧
      ∃ c, s.ownCar? = some c ∧ c.state = .gridded
    let late : Prop := s.race.phase = .countdown ∧ ∃ g, s.race.green = some g ∧
      g ≤ s.clock.time + s.race.options.lightInterval
    let o := s.race.options
    let now := s.clock.time
    ∀ holding : Bool,
      (¬may → Machine.exec (command holding) s = .next (refused holding .refusedState)) ∧
      (may → late → holding = true → Machine.exec (command holding) s = .next (refused holding .tooLate)) ∧
      (may → ¬late ∨ holding = false → s.clock.role ≠ .acting →
        Machine.exec (command holding) s = .next { s with
          race := { s.race with holdAsked := holding }
          bus := { s.bus with outbound := { s.bus.outbound with
            holdState := placed (.holdState (s.race.raceNumber.getD 0) holding) } }
          link := s.link.answered (request holding) ⟨.done, .empty⟩ }) ∧
      (∀ own, s.ownStation = some own → may → ¬late ∨ holding = false → s.clock.role = .acting →
        let h : State := { s with
          race := { s.race with holdAsked := holding }, link := s.link.answered (request holding) ⟨.done, .empty⟩ }
        let starter : Bool := (s.race.entries.find? fun e => e.station == own).any fun e => e.state ≠ .benched
        let change (f : HoldRow → HoldRow) : List HoldRow :=
          s.race.holdTable.map fun r => if r.station = own then f r else r
        let begun : List HoldRow := change fun r => { r with holdStart := some now }
        let ended : List HoldRow := change fun r => match r.holdStart with
          | some b => { r with
              holdStart := none, cumulative := r.cumulative + min (now - b) (min o.singleHold (o.holdBudget - r.cumulative)) }
          | none => r
        let field : Prop := o.minimumField ≤ (s.race.entries.filter fun e => e.state ≠ .benched).length
        let rows (l : List HoldRow) : RaceControl := { h.race with holdTable := l, holdSet := holdSetOf l }
        let lit (g : Nat) (x : State) : State := if s.race.lights = lightsAt o g now then x else
          ({ x with race := { x.race with lights := lightsAt o g now } } : State).raise (.lights (lightsAt o g now) (some g))
        (starter = false ∨ (s.race.holdTable.find? fun r => r.station == own) = none →
          Machine.exec (command holding) s = .next h) ∧
        (∀ row, s.race.holdTable.find? (fun r => r.station == own) = some row → starter = true →
          (row.holdStart.isSome = holding → Machine.exec (command holding) s = .next h) ∧
          (holding = true → row.holdStart = none → s.race.phase = .grid ∨ s.race.green = none →
            Machine.exec (command holding) s = .next { h with race := rows begun }) ∧
          (∀ g, s.race.green = some g → holding = true → row.holdStart = none → s.race.phase = .countdown →
            Machine.exec (command holding) s = .next { h with
              race := { rows begun with remainder := some (g - now), green := none, lights := 0 }
              notices := if s.race.lights = 0 then s.notices else s.notices.accept ⟨now, .lights 0 none⟩ }) ∧
          (holding = false → row.holdStart.isSome = true →
            (ended.any (fun r => r.holdStart.isSome) = true ∨ ¬field ∨
                (s.race.phase = .countdown ∧ (s.race.green.isSome = true ∨ s.race.remainder = none)) →
              Machine.exec (command holding) s = .next { h with race := rows ended }) ∧
            (ended.all (fun r => r.holdStart.isNone) = true → field →
              (s.race.phase = .grid →
                let g := now + o.lightsCount * o.lightInterval
                Machine.exec (command holding) s = .next (lit g (({ h with race := { rows ended with
                  phase := .countdown, green := some g, enterPending := false } } : State).raise
                    (.phase .countdown .grid s.race.raceNumber none)))) ∧
              (∀ left, s.race.remainder = some left → s.race.phase = .countdown → s.race.green = none →
                Machine.exec (command holding) s = .next (lit (now + left) { h with race := { rows ended with
                  green := some (now + left), remainder := none } }))))))

/-- CAR is refused REFUSED STATE without an own record. Otherwise the report is clamped, stamped with local race time
and taken as the own station's report, and goes to the REPORT slot unless it leaves the car IDLE, RETIRED or BENCHED;
while no progress is worked out (IDLE, ENTERED, GRIDDED or BENCHED before RESULTS) the own record changes in its last
report alone, the running order is re-evaluated, and the report goes to the REPORT slot exactly while the own car is
ENTERED or GRIDDED. The reply says ADJUSTED when a clamp changed the report, the own position, the laps, and whether
the report was deposited. -/
def Obligations.CarIsStampedAndStored : Prop :=
  ∀ (s : State) (f : CarFields), s.link.Ready →
    let request : Request := .car (.form f)
    let d := match s.track with
      | some t => if t.L ≤ f.d then t.L - 1 else f.d
      | none => f.d
    let v := max (-5000) (min f.v 20000)
    let r : Report := ⟨s.clock.time, d, v, f.lateral, f.heading, f.extra.take 16⟩
    let result : ResultCode := if d = f.d ∧ v = f.v ∧ f.extra.length ≤ 16 then .done else .adjusted
    let stored : State :=
      { s with cars := s.cars.map fun c => if s.ownStation = some c.station then { c with report := some r } else c }
    (s.ownCar? = none → Machine.exec (.car (.form f)) s =
      .next { s with link := s.link.answered request ⟨.refusedState, .empty⟩ }) ∧
    (∀ own, s.ownStation = some own → s.ownCar?.isSome = true →
      let t := ({ s with link := ⟨.hunt, 0, s.link.queue⟩ } : State).takeReport own r
      let c' := t.ownCar?
      let sends := c'.any fun c =>
        c.state ≠ .idle && c.state ≠ .retired && c.state ≠ .benched
      Machine.exec (.car (.form f)) s = .next { t with
        bus := if sends then (t.deposit (.report (t.race.raceNumber.getD 0) r)).bus else t.bus
        link := s.link.answered request ⟨result, .car (placeOf own t.order.order) (c'.elim 0 CarRecord.laps) sends⟩ }) ∧
    (∀ c, s.ownCar? = some c → s.race.phase ≠ .results →
      c.state = .idle ∨ c.state = .entered ∨ c.state = .gridded ∨ c.state = .benched →
      let t := stored.reevaluate
      let sends : Prop := c.state = .entered ∨ c.state = .gridded
      (¬sends → Machine.exec (.car (.form f)) s = .next { t with
        link := s.link.answered request ⟨result, .car (placeOf c.station t.order.order) c.laps false⟩ }) ∧
      (sends → Machine.exec (.car (.form f)) s = .next { t with
        bus := (s.deposit (.report (s.race.raceNumber.getD 0) r)).bus
        link := s.link.answered request ⟨result, .car (placeOf c.station t.order.order) c.laps true⟩ }))

/-- A report moves the progress of a RACING, SILENT or FINISHED car that has progress and a last report by its delta,
and becomes the last report; taking a report never lowers a record's greatest progress; and a RETIRED car's report
changes nothing at all. A report of a RACING or SILENT car moves it by its delta; at its first report its progress
starts from the lap distance, and Pmax at that or at 0, the lower (R9). A SILENT car is RACING again with CAR BACK and
the time since its silence began (R43). Stamped before G it passes no boundary and leaves Pmax (R14); else Pmax
becomes the greatest progress, and each boundary passed, in increasing index, is the last crossed at its crossing time
and goes to the ring. A lap line completes a lap: its time is taken from the last lap line, or from G for lap 1, it is
the last lap and bounds the best, LAP is raised for the own car, and FASTEST LAP where it beats the race fastest lap
(a time from a lap line that is not held is free, log 2). The finish boundary makes the car FINISHED with a
provisional tf; an acting referee then lists it and issues what is due, as at SETTLE DUE. The order is re-evaluated
last. -/
def Obligations.ReportMovesProgressByTheDelta : Prop :=
  ((∀ (s : State) (st : Nat) (c : CarRecord), s.car? st = some c → ∀ track, s.track = some track → ∀ p, c.p = some p →
      ∀ prev, c.report = some prev → c.state = .racing ∨ c.state = .silent ∨ c.state = .finished → ∀ r : Report,
        ∃ c', (s.takeReport st r).car? st = some c' ∧ c'.p = some (p + deltaChoice track.L prev.d r.d
          ((prev.v * (min (r.stamp - prev.stamp) 100000 : Nat)).tdiv 10000)) ∧
        c'.report = some r) ∧
    (∀ (s : State) (k : Nat) (c : CarRecord), s.car? k = some c → ∀ m, c.pmax = some m →
      c.p.isSome = true → c.report.isSome = true → ∀ (st : Nat) (r : Report),
        ∃ c', (s.takeReport st r).car? k = some c' ∧ ∃ m', c'.pmax = some m' ∧ m ≤ m') ∧
    (∀ (s : State) (st : Nat) (r : Report) (c : CarRecord), s.car? st = some c → c.state = .retired →
      s.takeReport st r = s)) ∧
  (∀ (s : State) (st : Nat) (c : CarRecord), s.car? st = some c → ∀ track, s.track = some track →
      ∀ g, s.race.green = some g → ∀ r : Report, s.race.phase = .racing ∨ s.race.phase = .finishing →
      c.state = .racing ∨ c.state = .silent →
      let start : Int := if 2 * r.d ≤ track.L then (r.d : Int) else (r.d : Int) - track.L
      let since : Option ReportPoint := match c.p, c.report with
        | some p, some prev => some ⟨p, prev.stamp⟩
        | _, _ => none
      let p' : Int := match c.p, c.report with
        | some p, some prev => p + movement track.L prev r
        | _, _ => start
      ∀ m, (if since.isSome then c.pmax else some (min start 0)) = some m →
      let finish := s.race.options.laps * track.S
      let passed : List Nat := if g ≤ r.stamp then track.boundaries s.race.options.laps m p' else []
      let ran : CarRecord := { c with
        state := .racing, silentSince := if c.state = .silent then none else c.silentSince
        p := some p', pmax := some (if g ≤ r.stamp then max m p' else m), report := some r }
      let back : List NoticeBody := if c.state = .silent then
        [.carBack st c.slot (min (r.stamp - c.silentSince.getD r.stamp) 4294967295)] else []
      let cross (x : CarRecord × OrderUnit × List NoticeBody) (b : Nat) : CarRecord × OrderUnit × List NoticeBody :=
        let tc := crossingTime s.race.options.silenceLimit g since ⟨p', r.stamp⟩ (track.position b)
        let crossed : CarRecord := { x.1 with crossed := some ⟨b, tc.1, tc.2⟩ }
        let ring : OrderUnit := x.2.1.cross b tc.1
        let time : Nat := if b = track.S then tc.1 - g
          else match x.1.lineTime with
            | some line => tc.1 - line
            | none => Config.lapTimeWithoutLine tc.1
        let best : Nat := match x.1.bestLap with
          | some y => min y time
          | none => time
        let faster : Bool := x.2.1.fastest.all fun f => time < f.time
        if b % track.S = 0 then
          ({ crossed with laps := b / track.S, lineTime := some tc.1, lastLap := some time, bestLap := some best },
            { ring with fastest := if faster then some ⟨st, time, b / track.S⟩ else x.2.1.fastest },
            x.2.2 ++ (if s.ownStation = some st then [.lap (b / track.S) time (some best)] else []) ++
              (if faster then [.fastestLap st c.slot (b / track.S) time] else []))
        else (crossed, ring, x.2.2)
      let after := passed.foldl cross (ran, s.order, back)
      let car : CarRecord := match after.1.crossed with
        | some k => if passed.contains finish = true then
            { after.1 with state := .finished, provisionalTf := some k.time
                           marks := { c.marks with unconfirmed := k.unconfirmed } }
          else after.1
        | none => after.1
      let taken : State := ({ s with
        cars := s.cars.map (fun y => if y.station = st then car else y), order := after.2.1 } : State).raiseAll after.2.2
      let judged : Prop := s.clock.role = .acting ∧ passed.contains finish = true ∧ c.position = none
      let listed : Bool := s.finish.waiting.any fun y => y.station == st
      let key (y : PendingFinish) : List Int := (y.tf : Int) :: (match y.slot with
        | some k => [0, (k : Int)]
        | none => [1, 0]) ++ [(y.station : Int)]
      (¬judged → s.takeReport st r = taken.reevaluate) ∧
      (judged → ∀ k, after.1.crossed = some k →
        let e : PendingFinish := ⟨st, k.time, c.slot, k.unconfirmed⟩
        let before := s.finish.waiting.takeWhile fun y => keyLt (key y) (key e)
        let behind := s.finish.waiting.dropWhile fun y => keyLt (key y) (key e)
        ∀ t, Machine.exec .settleDue { taken with finish := { s.finish with
            waiting := if listed then s.finish.waiting else before ++ e :: behind } } = .next t →
          s.takeReport st r = t.reevaluate))

/-- On a station that does not act, a report that carries the progress of a RACING car, or of a SILENT one that it
brings back, past the finish line completes its last lap and finishes it provisionally: FINISHED, laps completed N,
the finish boundary last crossed, and the crossing time with its unconfirmed mark as the provisional tf. On the acting
referee the provisional finish is placed on the pending finish list as well (here with no entry of the list due yet,
and the car neither on it nor holding a position): behind every finish with an earlier tf, ties by the lower grid
slot, then the lower station. -/
def Obligations.CrossingTheFinishIsAProvisionalFinish : Prop :=
  (∀ (s : State) (st : Nat) (c : CarRecord), s.car? st = some c → ∀ track, s.track = some track →
      ∀ p, c.p = some p → ∀ m, c.pmax = some m → ∀ prev, c.report = some prev → ∀ g, s.race.green = some g →
      ∀ r : Report, g ≤ r.stamp → 1 ≤ track.S → 0 < track.L → track.starts.getD 0 0 = 0 → 1 ≤ s.race.options.laps →
      s.clock.role ≠ .acting → s.race.phase = .racing ∨ s.race.phase = .finishing →
      c.state = .racing ∨ c.state = .silent →
      let finish : Int := s.race.options.laps * track.L
      let p' := p + movement track.L prev r
      m < finish → finish ≤ p' →
        let x := crossingTime s.race.options.silenceLimit g (some ⟨p, prev.stamp⟩) ⟨p', r.stamp⟩ finish
        ∃ c', (s.takeReport st r).car? st = some c' ∧
        c'.state = .finished ∧ c'.silentSince = (if c.state = .silent then none else c.silentSince) ∧ c'.laps = s.race.options.laps ∧ c'.lineTime = some x.1 ∧
        c'.crossed = some ⟨s.race.options.laps * track.S, x.1, x.2⟩ ∧
        c'.provisionalTf = some x.1 ∧ c'.marks.unconfirmed = x.2 ∧ c'.p = some p' ∧ c'.pmax = some p' ∧
        c'.position = c.position ∧ c'.officialTf = c.officialTf) ∧
  (∀ (s : State) (st : Nat) (c : CarRecord), s.car? st = some c → ∀ track, s.track = some track →
      ∀ p, c.p = some p → ∀ m, c.pmax = some m → ∀ prev, c.report = some prev → ∀ g, s.race.green = some g →
      ∀ r : Report, g ≤ r.stamp → 1 ≤ track.S → 0 < track.L → track.starts.getD 0 0 = 0 → 1 ≤ s.race.options.laps →
      s.clock.role = .acting → s.race.phase = .racing ∨ s.race.phase = .finishing → c.state = .racing ∨ c.state = .silent →
      let finish : Int := s.race.options.laps * track.L
      let p' := p + movement track.L prev r
      m < finish → finish ≤ p' →
        let x := crossingTime s.race.options.silenceLimit g (some ⟨p, prev.stamp⟩) ⟨p', r.stamp⟩ finish
        let e : PendingFinish := ⟨st, x.1, c.slot, x.2⟩
        let key (y : PendingFinish) : List Int := (y.tf : Int) :: (match y.slot with
          | some k => [0, (k : Int)]
          | none => [1, 0]) ++ [(y.station : Int)]
        c.position = none → s.finish.waiting.all (fun y => y.station != st &&
          decide (s.clock.time < y.tf + s.race.options.settleWindow)) = true →
        s.clock.time < x.1 + s.race.options.settleWindow →
        ((s.takeReport st r).car? st).any (fun c' => c'.state == .finished && c'.provisionalTf == some x.1) = true ∧
        (let before := s.finish.waiting.takeWhile fun y => keyLt (key y) (key e)
         let after := s.finish.waiting.dropWhile fun y => keyLt (key y) (key e)
         (s.takeReport st r).finish = { s.finish with waiting := before ++ e :: after }) ∧
        (s.takeReport st r).race = s.race)

/-- OPEN by its checks, in order: REFUSED ROLE unless ACTING, REFUSED STATE outside LOBBY and RESULTS, TRACK MISMATCH
unless the track it names is the loaded one. Taken, it answers with the new race number, ADJUSTED when a value was
brought into its range; the race number advances (255 to 1), the options and the track replace those held, the phase
is ENTRY with one PHASE, the entry window runs, and RACE SETUP stands last in the CONTROL FIFO. From RESULTS the race
is cleared first, with LIGHTS before PHASE where the lights count returns to 0 (R96; its place is the model's choice,
log 21). -/
def Obligations.OpenStartsTheEntry : Prop :=
  ∀ (s : State) (f : OpenFields), s.link.Ready →
    let request : Request := .openRace (.form f)
    let within (lo hi default : Nat) (o : Option Nat) : Nat :=
      match o with
      | some n => if n < lo then lo else if hi < n then hi else n
      | none => default
    let policy : Policy := if f.policy = some 1 then .coast else if f.policy = some 2 then .drop else .hold
    let o : Options := ⟨within 1 99 3 f.laps, policy, within 500 10000 2000 f.silenceLimit,
      within 10000 300000 50000 f.retireLimit, within 0 5000 1000 f.extrapolationCap, within 0 50000 10000 f.coastCap,
      within 200 5000 1000 f.settleWindow, within 50000 1200000 300000 f.graceWindow, within 1 8 2 f.minimumField,
      within 20000 600000 200000 f.entryWindow, within 3 5 5 f.lightsCount, within 5000 20000 10000 f.lightInterval,
      within 20000 600000 200000 f.singleHold, within 20000 1200000 300000 f.holdBudget⟩
    let changed (taken : Nat) (sent : Option Nat) : Prop := sent.isSome = true ∧ sent ≠ some taken
    let adjusted : Prop := changed o.laps f.laps ∨ (∃ code, f.policy = some code ∧ 2 < code) ∨
      changed o.silenceLimit f.silenceLimit ∨ changed o.retireLimit f.retireLimit ∨
      changed o.extrapolationCap f.extrapolationCap ∨ changed o.coastCap f.coastCap ∨
      changed o.settleWindow f.settleWindow ∨ changed o.graceWindow f.graceWindow ∨
      changed o.minimumField f.minimumField ∨ changed o.entryWindow f.entryWindow ∨
      changed o.lightsCount f.lightsCount ∨ changed o.lightInterval f.lightInterval ∨
      changed o.singleHold f.singleHold ∨ changed o.holdBudget f.holdBudget
    let number : Nat := match s.race.raceNumber with
      | some n => if n < 255 then n + 1 else 1
      | none => 1
    let opens : Prop := s.race.phase = .lobby ∨ s.race.phase = .results
    let same : Prop := ∃ t, s.track = some t ∧ t.id = f.trackId ∧ t.signature = f.signature
    let refused (code : ResultCode) : State := { s with link := s.link.answered request ⟨code, .empty⟩ }
    (s.clock.role ≠ .acting → Machine.exec (.openRace (.form f)) s = .next (refused .refusedRole)) ∧
    (s.clock.role = .acting → ¬opens → Machine.exec (.openRace (.form f)) s = .next (refused .refusedState)) ∧
    (s.clock.role = .acting → opens → ¬same →
      Machine.exec (.openRace (.form f)) s = .next (refused .trackMismatch)) ∧
    (s.clock.role = .acting → opens → same → ∃ t, Machine.exec (.openRace (.form f)) s = .next t ∧
      t.race.phase = .entry ∧ t.race.raceNumber = some number ∧ t.race.options = o ∧
      t.race.trackRef = some ⟨f.trackId, f.signature⟩ ∧
      t.race.entryDeadline = some (s.clock.time + o.entryWindow) ∧
      t.bus.outbound.control.getLast? = some ⟨.raceSetup ⟨number, .entry, t.race.green, o, ⟨f.trackId, f.signature⟩⟩, 0⟩ ∧
      (adjusted → t.link = s.link.answered request ⟨.adjusted, .openRace number⟩) ∧
      (¬adjusted → t.link = s.link.answered request ⟨.done, .openRace number⟩) ∧
      (s.race.phase = .lobby → t.cars = s.cars ∧ t.order = s.order ∧ t.finish = s.finish ∧ t.dir = s.dir ∧
        t.race = { s.race with
          phase := .entry, raceNumber := some number, options := o, trackRef := some ⟨f.trackId, f.signature⟩
          entryDeadline := t.race.entryDeadline, holdAsked := false }) ∧
      (s.race.phase = .results → t.cars = s.cars.map CarRecord.renewed ∧
        t.order = ⟨[], List.replicate 64 none, none, none, none, none⟩ ∧ t.finish = ⟨0, [], none⟩ ∧
        t.dir = { s.dir with slots := [] } ∧
        t.race = { RaceControl.initial with
          phase := .entry, raceNumber := some number, options := o, trackRef := some ⟨f.trackId, f.signature⟩
          entryDeadline := t.race.entryDeadline }) ∧
      (s.bus.outbound.control.length < 4 →
        t.notices = (if s.race.phase = .lobby ∨ s.race.lights = 0 then s.notices
          else s.notices.accept ⟨s.clock.time, .lights 0 none⟩).accept
            ⟨s.clock.time, .phase .entry s.race.phase (some number) none⟩) ∧
      t.track = s.track ∧ t.clock = s.clock ∧ t.straps = s.straps ∧ t.bus.line = s.bus.line ∧
      t.bus.inFlight.isSome = s.bus.inFlight.isSome)

/-! ## Frames heard: recording, objecting, duplicates, reports -/

/-- Every good frame with a source station is taken only in IDLE and RECEIVING (log 11); it is acknowledged, the line
becomes BUSY, and its source is recorded: a QUIET station is LIVE again, with LIVE, and an unknown one gets a LIVE
entry and a record, as the entry list names it in a race, with BENCHED where that benches it, ORDER where it changes
and JOINED last (that order is the model's choice, log 22; so is that a new station listed GRIDDED while the phase is
ENTRY stays IDLE without a slot, log 37, and that of a station listed twice the first entry holds, log 47, and that a
slot is taken as the list holds it, log 60), after which the frame acts as one heard from a known LIVE station. A
CLAIM that waits for the number of a new station is chosen afresh first; with no number free it leaves its slot (the
model's choice, log 23). A race-bound frame of another race goes no further. A frame that bears the disputed number
is recorded nowhere, and one that bears the own number while NUMBERED draws an ANNOUNCE. -/
def Obligations.GoodFramesAreRecorded : Prop :=
  ∀ (s : State) (c : Instr) (src : Nat), sourceOf c = some src →
    let acked : State := { s with bus := { s.bus with line := .busy, acknowledged := true, objected := false } }
    let entry (info : Option StationInfo) : DirEntry :=
      ⟨src, info, true, s.clock.time, if s.clock.role = .acting then s.clock.beatPeriod
        else s.clock.followed.getD s.clock.beatPeriod⟩
    let known (info : Option StationInfo) : State :=
      { acked with dir := { s.dir with entries := insertEntry (entry info) s.dir.entries } }
    (s.bus.line ≠ .idle → s.bus.line ≠ .receiving → Machine.exec c s = .next s) ∧
    (s.receives = true → s.dir.numbering = .conflict → s.dir.number = some src → Machine.exec c s = .next acked) ∧
    (s.receives = true → s.dir.numbering = .numbered → s.dir.number = some src → (∀ a, c ≠ .announce src a) →
      ∃ t, Machine.exec c s = .next t ∧
        t = { acked with bus := { acked.bus with outbound := { s.bus.outbound with announce := t.bus.outbound.announce } } } ∧
        (s.flying .announce = false → t.bus.outbound.announce =
          ⟨some ⟨.announce ⟨s.dir.serial, s.dir.pin.isSome, s.clock.eligible, s.dir.label⟩, 0⟩,
            s.bus.outbound.announce.followUp⟩)) ∧
    (s.receives = true → s.dir.number ≠ some src →
      (∀ n, raceOf c = some n → s.race.raceNumber ≠ some n → s.Hears src → Machine.exec c s = .next (s.heard src)) ∧
      (s.Hears src → ∀ e, s.dir.entry? src = some e → s.heard src = known e.info) ∧
      (∀ e, s.dir.entry? src = some e → e.live = false →
        let t := (known e.info).raise (.station .live src none s.dir.numbering)
        Machine.exec c s = Machine.exec c { t with bus := { s.bus with line := .idle } }) ∧
      (s.dir.entry? src = none → s.car? src = none →
        let new := CarRecord.new src
        let named : Option Entry := if s.race.phase = .detached ∨ s.race.phase = .claiming ∨ s.race.phase = .lobby then none
          else s.race.entries.find? fun e => e.station == src
        let record : CarRecord := match named with
          | none => new
          | some e => match e.state with
            | .entered => { new with state := .entered }
            | .benched => { new with state := .benched, slot := e.slot }
            | .gridded => match s.race.phase with
              | .grid | .countdown => { new with state := .gridded, slot := e.slot }
              | .racing | .finishing | .results => { new with state := .racing, slot := e.slot }
              | _ => new
        let made : State := { known none with cars := insertCar record s.cars }
        let joined : State := (if record.state = .benched then made.raise (.benched src record.slot)
          else made).reevaluate.raise (.station .joined src none s.dir.numbering)
        let chooses : Prop := s.dir.numbering = .claiming ∧ s.dir.wanted = some src ∧
          s.bus.outbound.claim.held.isSome = true ∧ s.flying .claim = false
        let wanted : Option Nat := (List.range 8).find? fun n =>
          n != src && (s.dir.entry? n).isNone && !s.dir.taken.getLsbD n
        let chosen : State := { joined with
          dir := { joined.dir with
            wanted := wanted
            claimRetry := if wanted.isSome then none else some (s.clock.time + 200 * (entry none).unit) }
          bus := { joined.bus with outbound := { s.bus.outbound with claim := match wanted with
            | some n => ⟨some ⟨.claim s.dir.serial n, 0⟩, s.bus.outbound.claim.followUp⟩
            | none => ⟨none, none⟩ } } }
        let t : State := if chooses then chosen else joined
        Machine.exec c s = Machine.exec c { t with bus := { t.bus with line := .idle } }))

/-- A CLAIM is received only in IDLE and RECEIVING (the model's choice, logs 11 and 12). A station objects to a good
one by its numbering state (the table of R168): NUMBERED and CONFLICT for the number they hold, LISTENING for its pin,
DETACHED and CLAIMING never. The CLAIM is acknowledged in every case; what was driven into the two slots is kept in
two fields (the model's choice, log 3), and nothing else changes. -/
def Obligations.ClaimsAreObjectedByTheTable : Prop :=
  ∀ (serial : Serial) (wanted : Nat) (s : State),
    let objects : Prop :=
      (s.dir.numbering = .numbered ∧ s.dir.number = some wanted) ∨ (s.dir.numbering = .listening ∧ s.dir.pin = some wanted) ∨
        (s.dir.numbering = .conflict ∧ s.dir.number = some wanted)
    let heard (objected : Bool) : State :=
      { s with bus := { s.bus with line := .busy, acknowledged := true, objected := objected } }
    (s.bus.line ≠ .idle → s.bus.line ≠ .receiving → Machine.exec (.claim serial wanted) s = .next s) ∧
    (s.bus.line = .idle ∨ s.bus.line = .receiving →
      (objects → Machine.exec (.claim serial wanted) s = .next (heard true)) ∧
      (¬objects → Machine.exec (.claim serial wanted) s = .next (heard false)))

/-- An ANNOUNCE of another station completes its entry with what it carries. The acting referee in a race answers with
CONTROL RACE SETUP and CONTROL ENTRIES, and in RESULTS with CONTROL RESULTS, but for a list without an entry, which
has no frame (the model's choice, log 41); any other station does no more. -/
def Obligations.AnnounceCompletesItsEntry : Prop :=
  ∀ (src : Nat) (a : AnnounceFields) (s : State), s.Hears src →
    let known : State := { s with
      bus := { s.bus with line := .busy, acknowledged := true, objected := false }
      dir := { s.dir with entries := insertEntry ⟨src, some a, true, s.clock.time, s.clock.working⟩ s.dir.entries } }
    let inRace : Prop := s.race.phase ≠ .detached ∧ s.race.phase ≠ .claiming ∧ s.race.phase ≠ .lobby
    let setup (ref : TrackRef) : Frame :=
      .raceSetup ⟨s.race.raceNumber.getD 0, s.race.phase, s.race.green, s.race.options, ref⟩
    let entries : Frame := .entries ⟨s.race.raceNumber.getD 0, s.race.phase, s.race.lastRefusal, s.race.entries⟩
    let waiting (t : State) : List Frame := t.bus.outbound.control.map Held.frame
    (s.clock.role ≠ .acting ∨ ¬inRace → Machine.exec (.announce src a) s = .next known) ∧
    (∀ ref, s.race.trackRef = some ref → s.clock.role = .acting → inRace → ∃ t,
      Machine.exec (.announce src a) s = .next t ∧
      { t with bus := { t.bus with outbound := { t.bus.outbound with control := [] } }, notices := s.notices } =
        { known with bus := { known.bus with outbound := { s.bus.outbound with control := [] } } } ∧
      (s.race.phase ≠ .results → [setup ref, entries] <:+ waiting t) ∧
      (∀ r, s.finish.results = some r → s.race.phase = .results →
        (r.entries ≠ [] → [setup ref, entries, .results r.raceNumber r.entries] <:+ waiting t) ∧
        (r.entries = [] → [setup ref, entries] <:+ waiting t)) ∧
      (s.bus.outbound.control = [] → t.notices = s.notices))

/-- A NUMBERED station that hears an ANNOUNCE of its own number compares serials (R173): equal serials are ignored;
else DUPLICATE is raised with the outcome by pins and serials. KEPT announces. RELEASED gives the number up, records
the other and chooses afresh in CLAIMING. CONFLICT gives it up but holds on to it as the disputed number, and
announces. Both leave the race, in phase CLAIMING, and release an acting referee. In both the notices are DUPLICATE,
ORDER where the own car's leaving changes the order, REFEREE with NUMBER LOST (when acting), LIGHTS where the lights
count falls to 0, PHASE, REMOVED for each station unheard too long, and RELEASED with its cause, in that order (the
model's choice, logs 21 and 22, and 52 for REMOVED; no search follows the removals, log 59), then for RELEASED the
other's JOINED. Every unsent frame is purged; a frame in flight stays, its end without further effect. RELEASED then
wants the lowest number free and deposits a CLAIM for it, or waits 200 working beat periods with none free; CONFLICT
deposits its ANNOUNCE. -/
def Obligations.DuplicatesAreSettledByPinAndSerial : Prop :=
  (∀ (own : Nat) (a : AnnounceFields) (s : State), s.receives = true → s.dir.numbering = .numbered →
      s.dir.number = some own →
      let acked : State := { s with bus := { s.bus with line := .busy, acknowledged := true, objected := false } }
      let pinned : Prop := s.dir.pin.isSome = true
      let notice (outcome : DuplicateOutcome) : NoticeBody := .duplicate own a.serial a.pinned outcome
      let keeps : Prop := (pinned ∧ a.pinned = false) ∨ (¬pinned ∧ a.pinned = false ∧ s.dir.serial.toNat < a.serial.toNat)
      let disputes : Prop := pinned ∧ a.pinned = true
      let out (t : State) : Prop :=
        t.race.phase = .claiming ∧ t.race.raceNumber = none ∧ t.race.entries = [] ∧ t.race.green = none ∧
          t.clock.role ≠ .acting ∧ t.finish = ⟨0, [], none⟩ ∧ t.dir.slots = [] ∧
          t.clock.time = s.clock.time ∧ t.track = s.track ∧ t.link = s.link ∧ t.straps = s.straps
      (a.serial = s.dir.serial → Machine.exec (.announce own a) s = .next acked) ∧
      (a.serial ≠ s.dir.serial → keeps → Machine.exec (.announce own a) s = .next (acked.raise (notice .kept)).announce) ∧
      (a.serial ≠ s.dir.serial → ¬keeps → ¬disputes → ∃ t, Machine.exec (.announce own a) s = .next t ∧ out t ∧
        t.dir.numbering = .claiming ∧ t.dir.number = none ∧
        t.dir.entry? own = some ⟨own, some a, true, s.clock.time, t.clock.working⟩ ∧
        t.car? own = some (CarRecord.new own)) ∧
      (a.serial ≠ s.dir.serial → disputes → ∃ t, Machine.exec (.announce own a) s = .next t ∧ out t ∧
        t.dir.numbering = .conflict ∧ t.dir.number = some own ∧ t.dir.wanted = s.dir.wanted ∧
        t.dir.entry? own = none ∧ t.car? own = none)) ∧
  (∀ (own : Nat) (a : AnnounceFields) (s : State), s.receives = true → s.dir.numbering = .numbered →
      s.dir.number = some own → a.serial ≠ s.dir.serial →
      let o := s.bus.outbound
      let pinned : Prop := s.dir.pin.isSome = true
      let disputes : Prop := pinned ∧ a.pinned = true
      let releases : Prop := ¬pinned ∧ (a.pinned = true ∨ a.serial.toNat ≤ s.dir.serial.toNat)
      let acting : Prop := s.clock.role = .acting
      let resting : Role := if s.clock.eligible then .follower else .ineligible
      let working : Nat := s.clock.followed.getD s.clock.beatPeriod
      let expired := s.dir.entries.filter fun e => decide (e.number ≠ own) && decide (e.lastHeard + 200 * e.unit ≤ s.clock.time)
      let others := s.dir.entries.filter fun e => decide (e.number ≠ own) && !expired.any fun x => x.number == e.number
      let cars := (s.cars.filter fun c => decide (c.station ≠ own) && !expired.any fun x => x.number == c.station).map
        CarRecord.renewed
      let told (outcome : DuplicateOutcome) (n : Numbering) (cause : StationCause) : State :=
        let dup := s.raise (.duplicate own a.serial a.pinned outcome)
        let gone : State := if (s.car? own).isSome then
          ({ dup with cars := s.cars.filter fun c => c.station ≠ own } : State).reevaluate else dup
        gone.raiseAll ((if acting then [.referee resting none .numberLost] else []) ++
          (if s.race.lights = 0 then [] else [.lights 0 none]) ++ [.phase .claiming s.race.phase none none] ++ expired.map (fun e => .station .removed e.number none n) ++
          [.station .released own (some cause) n])
      let out (kept : FrameKind → Prop) (t : State) : Prop :=
        (acting → t.clock = { s.clock with
          role := resting, beatTimer := none, referee := none, watchdog := some (min (s.clock.timeout * working) 65536) }) ∧
        (¬acting → t.clock = s.clock) ∧
        (∀ k, kept k → t.bus.outbound.followUp k = none ∧
          t.bus.outbound.frames k = if s.flying k then (o.frames k).take 1 else []) ∧
        t.bus.inFlight = s.bus.inFlight.map fun fl =>
          { fl with purged := if fl.purged = some .detach then fl.purged else some .raceOrNumber }
      let slot (k : FrameKind) (sl : Slot) (f : Frame) : Slot :=
        if s.flying k && sl.held.isSome then ⟨sl.held, some f⟩ else ⟨some ⟨f, 0⟩, none⟩
      (releases → ∃ t, Machine.exec (.announce own a) s = .next t ∧ out (fun k => k ≠ .claim) t ∧
        t.notices = ((told .released .claiming .duplicate).raise (.station .joined own none .claiming)).notices ∧
        t.cars = insertCar (CarRecord.new own) cars ∧
        (let entries := insertEntry ⟨own, some a, true, s.clock.time, working⟩ others
         let wanted := (List.range 8).find? fun n => (entries.all fun e => e.number != n) && !s.dir.taken.getLsbD n
         t.dir = { s.dir with
           numbering := .claiming, number := none, slots := [], entries := entries, wanted := wanted
           claimRetry := if wanted.isSome then none else some (s.clock.time + 200 * working) } ∧
         (∀ n, wanted = some n → t.bus.outbound.claim = slot .claim o.claim (.claim s.dir.serial n)) ∧
         (wanted = none → t.bus.outbound.claim = if s.flying .claim then ⟨o.claim.held, none⟩ else ⟨none, none⟩))) ∧
      (disputes → ∃ t, Machine.exec (.announce own a) s = .next t ∧ out (fun k => k ≠ .announce) t ∧
        t.notices = (told .conflict .conflict .conflict).notices ∧ t.cars = cars ∧
        t.dir = { s.dir with numbering := .conflict, slots := [], entries := others } ∧
        t.bus.outbound.announce =
          slot .announce o.announce (.announce ⟨s.dir.serial, s.dir.pin.isSome, s.clock.eligible, s.dir.label⟩)))

/-- A good REPORT of the race held is brought into range (a stamp more than 1,000 ahead of local race time becomes
local race time, the lap distance, the speed, the extra bytes) and discarded when its stamp is not above that of the
last report held; any other is taken as the station's report. For a car that runs no arithmetic it becomes the last
report, and the running order is re-evaluated. -/
def Obligations.RemoteReportsAreTakenUnlessStale : Prop :=
  ∀ (src n : Nat) (r : Report) (s : State), s.Hears src → s.race.raceNumber = some n →
    let stamp := if s.clock.time + 1000 < r.stamp then s.clock.time else r.stamp
    let d := match s.track with
      | some t => if t.L ≤ r.d then t.L - 1 else r.d
      | none => r.d
    let taken : Report := ⟨stamp, d, max (-5000) (min r.v 20000), r.lateral, r.heading, r.extra.take 16⟩
    (∀ c last, s.car? src = some c → c.report = some last → stamp ≤ last.stamp →
      Machine.exec (.report src n r) s = .next (s.heard src)) ∧
    (∀ c, s.car? src = some c → (∀ last, c.report = some last → last.stamp < stamp) →
      Machine.exec (.report src n r) s = .next ((s.heard src).takeReport src taken) ∧
      (s.race.phase ≠ .results → c.state = .idle ∨ c.state = .entered ∨ c.state = .gridded ∨ c.state = .benched →
        Machine.exec (.report src n r) s = .next ({ s.heard src with
          cars := s.cars.map fun (x : CarRecord) => if x.station = src then { x with report := some taken } else x }).reevaluate))

/-! ## Following the referee -/

/-- A BEAT heard by a station that does not act: the target is the time it carries plus the one-hop latency. At or
after local race time the clock steps to it (here with no deadline due by it, log 9); up to 500 behind, it becomes a
hold-off; further behind, the clock is set back in CLAIMING and LOBBY, and is in conflict in any other phase. The
sender is the referee, its period measured from the last BEAT where that was its own and it is the referee held
(absent where another or none is held, the model's choice for a last BEAT of its own, log 42), a WAITING search ends,
and the watchdog restarts. A BEAT of the race and phase held, in ENTRY or GRID, brings its hold set and verdict count
besides, and nothing more; in CLAIMING no race field is taken. A BEAT of the race and phase held, after the step with
every deadline met, within a hold-off, or in conflict, brings its hold set and its verdict count, one above 8 as
carried (the model's choice, log 56). In COUNTDOWN it brings its G, the lights count follows, and HOLD REFUSED is
raised for a hold this station asked for that the hold set lacks while nothing waits in the HOLD STATE slot; in
RACING and FINISHING under COAST the order is re-evaluated after it (the model's choice, log 38); in RESULTS without
a list an ANNOUNCE is deposited unless one is there. CLOCK CONFLICT is raised as the mark is set. A forward step
meets the deadlines it passes one by one, earliest first, each as its own event does, the clock at the target (the
model's reading, log 9). Among them are lights and green of a countdown (log 62), the silence moments (by the stamp
alone while G is absent, the model's choice, log 34), the ends of listen period and claim retry, and the moments
other entries turn QUIET or are removed. When none is left, the BEAT goes on from there, also where the step numbers
this station with its source number (the model's choice, log 46); where a deadline made this station act, it meets
the BEAT as an acting station does (log 20). -/
def Obligations.BeatsSetTheClock : Prop :=
  (∀ (src : Nat) (b : BeatFields) (s : State), s.Hears src → s.clock.role ≠ .acting →
      let target := b.time + s.clock.latency
      let now := s.clock.time
      let followed : Option Nat :=
        if s.clock.referee ≠ some src then none
        else match s.clock.lastBeat with
          | some l => if l.station = src then some (max 20 (min (s.clock.ticks - l.tick) 500)) else s.clock.followed
          | none => s.clock.followed
      let noted (time holdOff : Nat) (conflict : Bool) : RaceClock := { s.clock with
        time := time, holdOff := holdOff, conflict := conflict
        followed := followed
        lastBeat := some ⟨src, s.clock.ticks⟩
        referee := some src
        role := if s.clock.role = .waiting then .follower else s.clock.role
        candidate := if s.clock.role = .waiting then none else s.clock.candidate
        watchdog := some (min (s.clock.timeout * followed.getD s.clock.beatPeriod) 65536) }
      let u : State := { s.heard src with clock := { s.clock with time := target, holdOff := 0, conflict := false } }
      let follows : Prop := now ≤ target + 500 ∧ (now ≤ target → u.nextDue = none)
      (∃ t, Machine.exec (.beat src b) s = .next t ∧
        (now ≤ target → u.nextDue = none → t.clock = noted target 0 false) ∧
        (target < now → now ≤ target + 500 → t.clock = noted now (now - target) false) ∧
        (target + 500 < now → s.race.phase = .claiming ∨ s.race.phase = .lobby → t.clock = noted target 0 false) ∧
        (target + 500 < now → s.race.phase ≠ .claiming → s.race.phase ≠ .lobby →
          t.clock = noted now s.clock.holdOff true)) ∧
      (follows → s.race.phase = .claiming →
        Machine.exec (.beat src b) s = .next { s.heard src with clock := noted (max now target) (now - target) false }) ∧
      (follows → s.race.phase = .entry ∨ s.race.phase = .grid → b.phase = s.race.phase →
        b.raceNumber = s.race.raceNumber →
        Machine.exec (.beat src b) s = .next { s.heard src with
          clock := noted (max now target) (now - target) false
          race := { s.race with holdSet := b.holdSet }
          finish := { s.finish with verdictCount := max s.finish.verdictCount b.count } }) ∧
      (target + 500 < now → s.race.phase = .claiming → ∃ t, Machine.exec (.beat src b) s = .next t ∧
        t = ({ s.heard src with
          clock := noted target 0 false
          cars := s.cars.map fun (c : CarRecord) => { c with report := c.report.filter fun r => decide (r.stamp ≤ target) }
          dir := { (s.heard src).dir with
            listenDeadline := s.dir.listenDeadline.map fun x => x - (now - target)
            claimRetry := s.dir.claimRetry.map fun x => x - (now - target)
            entries := (s.heard src).dir.entries.map fun (e : DirEntry) =>
              { e with lastHeard := e.lastHeard - (now - target) } }
          race := { s.race with
            entryDeadline := s.race.entryDeadline.map fun x => x - (now - target)
            graceDeadline := s.race.graceDeadline.map fun x => x - (now - target) } } : State).raise
              (.clockRebase src now target))) ∧
  (∀ (src : Nat) (b : BeatFields) (s : State), s.Hears src → s.clock.role ≠ .acting →
      let target := b.time + s.clock.latency
      let now := s.clock.time
      let next (x : State) : State := match x.nextDue with
        | some (_, d) => x.meet d
        | none => x
      let followed (c : RaceClock) : Option Nat :=
        if c.referee ≠ some src then none
        else match c.lastBeat with
          | some l => if l.station = src then some (max 20 (min (c.ticks - l.tick) 500)) else c.followed
          | none => c.followed
      let noted (c : RaceClock) : RaceClock := { c with
        followed := followed c, lastBeat := some ⟨src, c.ticks⟩, referee := some src
        role := if c.role = .waiting then .follower else c.role
        candidate := if c.role = .waiting then none else c.candidate
        watchdog := some (min (c.timeout * (followed c).getD c.beatPeriod) 65536) }
      ∀ n, n ≤ 64 →
        let x : State :=
          if now ≤ target then
            Nat.iterate next n { s.heard src with clock := { s.clock with time := target, holdOff := 0, conflict := false } }
          else if now ≤ target + 500 then
            { s.heard src with clock := { s.clock with holdOff := now - target, conflict := false } }
          else { s.heard src with
            clock := { s.clock with conflict := true }
            notices := if s.clock.conflict then s.notices
              else s.notices.accept ⟨now, .clockConflict src target now (min (now - target) 4294967295)⟩ }
        let brought : State := { x with
          clock := noted x.clock
          race := { x.race with holdSet := b.holdSet }
          finish := { x.finish with verdictCount := max x.finish.verdictCount b.count } }
        (now ≤ target → x.nextDue = none) → (target + 500 < now → s.race.phase ≠ .claiming ∧ s.race.phase ≠ .lobby) →
        x.clock.role ≠ .acting →
        (x.race.phase = .claiming → Machine.exec (.beat src b) s = .next { x with clock := noted x.clock }) ∧
        (b.raceNumber = x.race.raceNumber → b.phase = x.race.phase →
          (x.race.phase = .lobby ∨ x.race.phase = .entry ∨ x.race.phase = .grid →
            Machine.exec (.beat src b) s = .next brought) ∧
          (x.race.phase = .racing ∨ x.race.phase = .finishing → Machine.exec (.beat src b) s =
            .next (if x.race.options.policy = .coast then brought.reevaluate else brought)) ∧
          (x.race.phase = .results →
            (x.finish.results = none → x.bus.outbound.announce = ⟨none, none⟩ → Machine.exec (.beat src b) s =
              .next { brought with bus := { brought.bus with outbound := { x.bus.outbound with announce :=
                ⟨some ⟨.announce ⟨x.dir.serial, x.dir.pin.isSome, x.clock.eligible, x.dir.label⟩, 0⟩, none⟩ } } }) ∧
            (x.finish.results.isSome = true ∨ x.bus.outbound.announce ≠ ⟨none, none⟩ →
              Machine.exec (.beat src b) s = .next brought)) ∧
          (x.race.phase = .countdown →
            let lights : Nat := match b.green with
              | some g => lightsAt x.race.options g x.clock.time
              | none => 0
            let lit : NoticeQueue := if x.race.lights = lights then x.notices
              else x.notices.accept ⟨x.clock.time, .lights lights b.green⟩
            let refused : Prop := b.green.isSome = true ∧ x.race.holdAsked = true ∧ x.dir.numbering = .numbered ∧
              (∃ own, x.dir.number = some own ∧ b.holdSet.getLsbD own = false) ∧ x.bus.outbound.holdState = ⟨none, none⟩
            let counting (asked : Bool) (q : NoticeQueue) : State := { brought with
              race := { x.race with green := b.green, lights := lights, holdSet := b.holdSet, holdAsked := asked }
              notices := q }
            (refused → Machine.exec (.beat src b) s =
              .next (counting false (lit.accept ⟨x.clock.time, .holdRefused b.green lights⟩))) ∧
            (¬refused → Machine.exec (.beat src b) s = .next (counting x.race.holdAsked lit))))) ∧
  ((∀ w : State,
      let event : Deadline → Instr
        | .lights => .lights
        | .green => .green
        | .silent st => .carSilent st
        | .listen => .listenDeadline
        | .claimRetry => .claimRetry
        | .quiet st => .stationQuiet st
        | .removed st => .stationRemoved st
      let due (v : Nat) : Prop := v ≤ w.clock.time → ∃ x, w.nextDue = some x ∧ x.1 ≤ v
      let moment (c : CarRecord) : Nat :=
        max (w.race.green.getD 0) ((c.report.map Report.stamp).getD 0) + w.race.options.silenceLimit + 1
      let light (g : Nat) : Nat := g - (w.race.options.lightsCount - w.race.lights) * w.race.options.lightInterval
      let racing : Prop := w.race.phase = .racing ∨ w.race.phase = .finishing
      let removing : Prop := w.race.phase = .lobby ∨ w.race.phase = .claiming
      (∀ g, w.race.green = some g → w.race.phase = .countdown → due g ∧
        (w.race.lights < lightsAt w.race.options g w.clock.time → due (light g))) ∧
      (racing → ∀ c, c ∈ w.cars → c.state = .racing → w.race.green.isSome = true ∨ c.report.isSome = true →
        due (moment c)) ∧
      (∀ v, w.dir.numbering = .listening → w.dir.listenDeadline = some v → due v) ∧
      (∀ v, w.dir.numbering = .claiming → w.dir.claimRetry = some v → due v) ∧
      (∀ e, e ∈ w.dir.entries → w.ownStation ≠ some e.number →
        (e.live = true → due (e.lastHeard + 8 * e.unit)) ∧ (removing → due (e.lastHeard + 200 * e.unit))) ∧
      (∀ v d, w.nextDue = some (v, d) → v ≤ w.clock.time ∧
        (match d with
          | .green => w.race.phase = .countdown ∧ w.race.green = some v
          | .lights => w.race.phase = .countdown ∧ w.race.green.map light = some v
          | .silent st => racing ∧ ∃ c, c ∈ w.cars ∧ c.station = st ∧ c.state = .racing ∧
            (w.race.green.isSome = true ∨ c.report.isSome = true) ∧ v = moment c
          | .listen => w.dir.numbering = .listening ∧ w.dir.listenDeadline = some v
          | .claimRetry => w.dir.numbering = .claiming ∧ w.dir.claimRetry = some v
          | .quiet st => ∃ e, e ∈ w.dir.entries ∧ e.number = st ∧ e.live = true ∧ w.ownStation ≠ some st ∧
            v = e.lastHeard + 8 * e.unit
          | .removed st => removing ∧ ∃ e, e ∈ w.dir.entries ∧ e.number = st ∧ w.ownStation ≠ some st ∧
            v = e.lastHeard + 200 * e.unit) ∧
        ((w.cars.map CarRecord.station).Nodup → (w.dir.entries.map DirEntry.number).Nodup →
          Machine.exec (event d) w = .next (w.meet d)))) ∧
    (∀ (src : Nat) (b : BeatFields) (s : State), s.Hears src → s.clock.role ≠ .acting →
      s.clock.time ≤ b.time + s.clock.latency →
      let next (x : State) : State := match x.nextDue with
        | some (_, d) => x.meet d
        | none => x
      ∀ n, n ≤ 64 →
        let x : State := Nat.iterate next n { s.heard src with
          clock := { s.clock with time := b.time + s.clock.latency, holdOff := 0, conflict := false } }
        x.nextDue = none →
        (x.clock.role ≠ .acting → Machine.exec (.beat src b) s = .next (x.finishBeat src b)) ∧
        (∀ own, x.clock.role = .acting → x.ownStation = some own →
          (own ≤ src → Machine.exec (.beat src b) s = .next x) ∧
          (src < own → Machine.exec (.beat src b) s = .next ((x.yieldTo src).finishBeat src b)))))

/-- An acting referee ignores the BEAT of a higher station number, and yields to a lower one: it follows the sender,
its own BEAT leaves the slot, the hold table, the remainder, the two deadlines and the pending finishes are dropped,
REFEREE is raised with the cause YIELD, and the BEAT is then taken as any station takes it (here with no deadline due
by a target at or after local race time). -/
def Obligations.RefereesYieldToALowerNumber : Prop :=
  ∀ (s : State) (own : Nat), s.dir.number = some own → ∀ (src : Nat) (b : BeatFields), s.Hears src →
    s.clock.role = .acting → s.dir.numbering = .numbered →
    let target := b.time + s.clock.latency
    let now := s.clock.time
    let stepped : State := { s.heard src with clock := { s.clock with time := target, holdOff := 0, conflict := false } }
    let follows : Prop := now ≤ target + 500 ∧ (now ≤ target → stepped.nextDue = none)
    let resting : Role := if s.clock.eligible then .follower else .ineligible
    (own < src → Machine.exec (.beat src b) s = .next (s.heard src)) ∧
    (src < own → follows → ∃ t, Machine.exec (.beat src b) s = .next t ∧
      t.clock.role = resting ∧ t.clock.referee = some src ∧ t.clock.beatTimer = none ∧
      t.clock.holdOff = now - target ∧ t.clock.time = max now target ∧
      t.clock.lastBeat = some ⟨src, s.clock.ticks⟩ ∧
      t.finish.waiting = [] ∧ t.race.holdTable = [] ∧ t.race.remainder = none ∧ t.race.entryDeadline = none ∧
      t.race.graceDeadline = none ∧ (s.flying .beat = false → t.bus.outbound.beat = ⟨none, none⟩) ∧
      t.dir.number = some own ∧ t.kept = s.kept) ∧
    (src < own → follows → b.phase = s.race.phase →
      b.raceNumber = s.race.raceNumber → s.race.phase = .entry ∨ s.race.phase = .grid →
      ∃ t, Machine.exec (.beat src b) s = .next t ∧
        t.notices = ((s.heard src).raise (.referee resting (some src) .yield)).notices ∧
        t.cars = s.cars ∧ t.order = s.order ∧ t.race.phase = s.race.phase ∧ t.race.entries = s.race.entries ∧
        t.race.green = s.race.green ∧ t.race.options = s.race.options)

/-- The race phase a follower arrives in when it takes a RACE SETUP of the race held (the table of R75), with the
options and the track it carries (replaced before the phase is taken, log 16; an option outside its range of R79 as
carried, the model's choice, log 62, a light interval of 0 giving a free lights count within 0 to N, log 2), and the
green time held afterwards. Arriving from before RACING in RACING or later applies green; going back from RACING or
FINISHING to before it undoes green. The moves in full, with their notices. A later phase raises PHASE; arriving in
COUNTDOWN, LIGHTS follows when the count changes. At green come LIGHTS with the full count, PHASE, ORDER and, from
COUNTDOWN, GO; on the way past RACING the one PHASE comes last. Undoing green: ORDER, LIGHTS 0, PHASE and, in
COUNTDOWN, LIGHTS; from COUNTDOWN back: LIGHTS 0 and PHASE, with a re-evaluation in GRID; a return to LOBBY: LIGHTS 0
and PHASE (the model's choice of places, log 21). The return to LOBBY is here that of a numbered station whose Car
Table and directory stand in step (State.TablesOk, which O8 keeps), with no other station unheard too long. An
ignored phase changes nothing else. A BEAT of the race held brings its phase and green time in the same way, under
the options held, with its hold set and its verdict count, which counts on from 0 where the race was cleared or green
undone; one above 8 is taken as carried (the model's choice, log 56). It does what a RACE SETUP of its phase and G
does at the time the clock then shows, but for the options and the track; HOLD REFUSED, the ANNOUNCE for a missing
results list and COAST's re-evaluation (log 38) come after that. The followed beat period it leaves is absent for a
BEAT of the last BEAT's own station while the referee held is another or none (the model's choice, log 42). -/
def Obligations.PhasesFollowTheReferee : Prop :=
  (∀ (src : Nat) (r : RaceSetupFields) (s : State), s.Hears src → r.raceNumber ≠ 0 →
      s.race.raceNumber = some r.raceNumber →
      s.clock.role = .follower ∨ s.clock.role = .ineligible →
      let rank : Phase → Nat
        | .detached | .claiming => 0
        | .lobby => 1 | .entry => 2 | .grid => 3 | .countdown => 4 | .racing => 5 | .finishing => 6 | .results => 7
      let held := s.race.phase
      let keepsGreen : Prop := r.phase = .countdown ∧ r.green.isSome = true ∧ r.green = s.race.green
      let arrived : Phase :=
        if rank held < rank r.phase then r.phase
        else if r.phase = .lobby then .lobby
        else if held = .results ∨ (held = .finishing ∧ r.phase = .racing) then held
        else if (held = .racing ∨ held = .finishing) ∧ keepsGreen then held
        else r.phase
      let green : Option Nat :=
        if rank held < rank r.phase then
          if r.phase = .countdown ∨ (rank held < rank .racing ∧ rank .racing ≤ rank r.phase) then r.green else s.race.green
        else if r.phase = held then if held = .countdown then r.green else s.race.green
        else if r.phase = .lobby then none
        else if arrived = held ∨ held = .grid then s.race.green
        else if r.phase = .countdown then r.green
        else none
      let goesGreen : Prop := rank held < rank .racing ∧ rank .racing ≤ rank r.phase
      let undone : Prop := (held = .racing ∨ held = .finishing) ∧ rank arrived < rank .racing ∧ r.phase ≠ .lobby
      0 < rank held → 0 < rank r.phase → ∃ t, Machine.exec (.raceSetup src r) s = .next t ∧
        t.race.phase = arrived ∧ t.race.green = green ∧ t.race.options = r.options ∧
        t.race.trackRef = some r.trackRef ∧ t.race.raceNumber = s.race.raceNumber ∧ t.clock = s.clock ∧
        t.dir.number = s.dir.number ∧ t.dir.numbering = s.dir.numbering ∧ t.kept = s.kept ∧
        (goesGreen → t.race.lights = r.options.lightsCount ∧ t.cars = s.cars.map fun (c : CarRecord) =>
          if c.state = .gridded then
            match s.track, c.report with
            | some track, some x =>
              let p : Int := if 2 * x.d ≤ track.L then (x.d : Int) else (x.d : Int) - track.L
              { c with state := .racing, p := some p, pmax := some p }
            | _, _ => { c with state := .racing }
          else c) ∧
        (undone → t.finish = ⟨0, [], none⟩ ∧ t.cars = s.cars.map fun (c : CarRecord) => { c with
          state := if c.state = .racing ∨ c.state = .silent ∨ c.state = .finished ∨ c.state = .retired then .gridded
            else c.state
          p := none, pmax := none, crossed := none, laps := 0, lineTime := none, lastLap := none, bestLap := none
          silentSince := none, provisionalTf := none, officialTf := none, position := none, marks := ⟨false, false, false⟩
          retireReason := none }) ∧
        (¬goesGreen → ¬undone → arrived ≠ .lobby → t.cars = s.cars ∧ t.finish = s.finish)) ∧
  (∀ (src : Nat) (r : RaceSetupFields) (s : State), s.Hears src →
      s.race.raceNumber = (if r.raceNumber = 0 then none else some r.raceNumber) →
      s.clock.role = .follower ∨ s.clock.role = .ineligible →
      let rank : Phase → Nat
        | .detached | .claiming => 0
        | .lobby => 1 | .entry => 2 | .grid => 3 | .countdown => 4 | .racing => 5 | .finishing => 6 | .results => 7
      let held := s.race.phase
      let later : Prop := rank held < rank r.phase
      let base : State := { s.heard src with race := { s.race with options := r.options, trackRef := some r.trackRef } }
      let arrives (p : Phase) (green : Option Nat) (x : State) : State := { x with race := { x.race with
        phase := p, green := green
        enterPending := x.race.enterPending && decide (p = .entry)
        holdAsked := x.race.holdAsked && decide (p = .grid ∨ p = .countdown) } }
      let told (x : State) : State := x.raise (.phase x.race.phase held x.race.raceNumber none)
      let lit (n : Nat) (green : Option Nat) (x : State) : State :=
        if x.race.lights = n then x else ({ x with race := { x.race with lights := n } } : State).raise (.lights n green)
      let go (x : State) : State := if held = .countdown then x.raise (.go r.green) else x
      let counted : Nat := match r.green with
        | some g => if r.phase = .countdown then lightsAt r.options g s.clock.time else 0
        | none => 0
      let green : State := lit r.options.lightsCount r.green { base with cars := s.cars.map fun (c : CarRecord) =>
        if c.state = .gridded then
          match s.track, c.report with
          | some track, some x =>
            let p : Int := if 2 * x.d ≤ track.L then (x.d : Int) else (x.d : Int) - track.L
            { c with state := .racing, p := some p, pmax := some p }
          | _, _ => { c with state := .racing }
        else c }
      let undone : State := { base with
        order := ⟨[], List.replicate 64 none, none, none, none, none⟩
        finish := ⟨0, [], none⟩
        cars := s.cars.map fun (c : CarRecord) => { c with
          state := if c.state = .racing ∨ c.state = .silent ∨ c.state = .finished ∨ c.state = .retired then .gridded
            else c.state
          p := none, pmax := none, crossed := none, laps := 0, lineTime := none, lastLap := none, bestLap := none
          silentSince := none, provisionalTf := none, officialTf := none, position := none, marks := ⟨false, false, false⟩
          retireReason := none } }
      let keepsGreen : Prop := r.phase = .countdown ∧ r.green.isSome = true ∧ r.green = s.race.green
      let fresh : Prop := s.dir.entries.all (fun e =>
        s.dir.number == some e.number || e.number == src || decide (s.clock.time < e.lastHeard + 200 * e.unit)) = true
      0 < rank held → 0 < rank r.phase →
      (later → rank r.phase < 4 ∨ 5 ≤ rank held →
        Machine.exec (.raceSetup src r) s = .next (told (arrives r.phase s.race.green base))) ∧
      (later → r.phase = .countdown →
        Machine.exec (.raceSetup src r) s = .next (lit counted r.green (told (arrives .countdown r.green base)))) ∧
      (later → rank held < 5 → r.phase = .racing →
        Machine.exec (.raceSetup src r) s = .next (go (told (arrives .racing r.green green)).reevaluate)) ∧
      (later → rank held < 5 → 5 < rank r.phase → Machine.exec (.raceSetup src r) s =
        .next (told (arrives r.phase r.green (go (arrives .racing r.green green).reevaluate)))) ∧
      (held = .racing ∨ held = .finishing → 1 < rank r.phase → rank r.phase < 5 → ¬keepsGreen →
        Machine.exec (.raceSetup src r) s = .next (lit counted r.green
          (told (arrives r.phase (if r.phase = .countdown then r.green else none) (lit 0 s.race.green undone.reevaluate))))) ∧
      (held = .countdown → r.phase = .grid → Machine.exec (.raceSetup src r) s =
        .next (told (arrives .grid none (lit 0 none base))).reevaluate) ∧
      (held = .countdown → r.phase = .entry → Machine.exec (.raceSetup src r) s =
        .next (told (arrives .entry none (lit 0 none base)))) ∧
      (held = .grid → r.phase = .entry → Machine.exec (.raceSetup src r) s =
        .next (told (arrives .entry s.race.green base))) ∧
      (held = .countdown → r.phase = .countdown → Machine.exec (.raceSetup src r) s =
        .next (lit counted r.green { base with race := { base.race with green := r.green } })) ∧
      ((r.phase = held ∧ held ≠ .countdown) ∨ (held = .results ∧ r.phase ≠ .lobby) ∨
          (held = .finishing ∧ r.phase = .racing) ∨ ((held = .racing ∨ held = .finishing) ∧ keepsGreen) →
        Machine.exec (.raceSetup src r) s = .next base) ∧
      (r.phase = .lobby → held ≠ .lobby → s.TablesOk → s.dir.numbering = .numbered → fresh →
        1 ≤ s.clock.followed.getD s.clock.beatPeriod → ∃ t, Machine.exec (.raceSetup src r) s = .next t ∧
          t.notices = ((lit 0 none base).raise (.phase .lobby held s.race.raceNumber none)).notices ∧
          t.cars = s.cars.map CarRecord.renewed ∧ t.order = ⟨[], List.replicate 64 none, none, none, none, none⟩ ∧
          t.finish = ⟨0, [], none⟩ ∧ t.race.entries = [] ∧ t.race.lastRefusal = none ∧ t.race.lights = 0 ∧
          t.dir = { (s.heard src).dir with slots := [] } ∧ t.clock = s.clock ∧ t.kept = s.kept)) ∧
  (∀ (src : Nat) (b : BeatFields) (s : State), s.Hears src → b.raceNumber = s.race.raceNumber →
      s.clock.role = .follower ∨ s.clock.role = .ineligible →
      let target := b.time + s.clock.latency
      let now := s.clock.time
      let stepped : State := { s.heard src with clock := { s.clock with time := target, holdOff := 0, conflict := false } }
      now ≤ target + 500 → (now ≤ target → stepped.nextDue = none) →
      let rank : Phase → Nat
        | .detached | .claiming => 0
        | .lobby => 1 | .entry => 2 | .grid => 3 | .countdown => 4 | .racing => 5 | .finishing => 6 | .results => 7
      let held := s.race.phase
      let keepsGreen : Prop := b.phase = .countdown ∧ b.green.isSome = true ∧ b.green = s.race.green
      let arrived : Phase :=
        if rank held < rank b.phase then b.phase
        else if b.phase = .lobby then .lobby
        else if held = .results ∨ (held = .finishing ∧ b.phase = .racing) then held
        else if (held = .racing ∨ held = .finishing) ∧ keepsGreen then held
        else b.phase
      let green : Option Nat :=
        if rank held < rank b.phase then
          if b.phase = .countdown ∨ (rank held < rank .racing ∧ rank .racing ≤ rank b.phase) then b.green else s.race.green
        else if b.phase = held then if held = .countdown then b.green else s.race.green
        else if b.phase = .lobby then none
        else if arrived = held ∨ held = .grid then s.race.green
        else if b.phase = .countdown then b.green
        else none
      let goesGreen : Prop := rank held < rank .racing ∧ rank .racing ≤ rank b.phase
      let undone : Prop := (held = .racing ∨ held = .finishing) ∧ rank arrived < rank .racing ∧ b.phase ≠ .lobby
      let cleared : Prop := b.phase = .lobby ∧ held ≠ .lobby
      0 < rank held → 0 < rank b.phase → (∃ t, Machine.exec (.beat src b) s = .next t ∧
        t.race.phase = arrived ∧ t.race.green = green ∧ t.race.options = s.race.options ∧
        t.race.trackRef = s.race.trackRef ∧ t.race.raceNumber = s.race.raceNumber ∧ t.race.holdSet = b.holdSet ∧
        t.clock.time = max now target ∧ t.clock.holdOff = now - target ∧ t.clock.referee = some src ∧ t.dir.number = s.dir.number ∧
        t.dir.numbering = s.dir.numbering ∧ t.kept = s.kept ∧
        (cleared ∨ undone → t.finish = ⟨b.count, [], none⟩) ∧
        (¬cleared → ¬undone → t.finish = { s.finish with verdictCount := max s.finish.verdictCount b.count }) ∧
        (goesGreen → t.race.lights = s.race.options.lightsCount ∧ t.cars = s.cars.map fun (c : CarRecord) =>
          if c.state = .gridded then
            match s.track, c.report with
            | some track, some x =>
              let p : Int := if 2 * x.d ≤ track.L then (x.d : Int) else (x.d : Int) - track.L
              { c with state := .racing, p := some p, pmax := some p }
            | _, _ => { c with state := .racing }
          else c) ∧
        (undone → t.cars = s.cars.map fun (c : CarRecord) => { c with
          state := if c.state = .racing ∨ c.state = .silent ∨ c.state = .finished ∨ c.state = .retired then .gridded
            else c.state
          p := none, pmax := none, crossed := none, laps := 0, lineTime := none, lastLap := none, bestLap := none
          silentSince := none, provisionalTf := none, officialTf := none, position := none, marks := ⟨false, false, false⟩
          retireReason := none }) ∧
        (¬goesGreen → ¬undone → ¬cleared → t.cars = s.cars)) ∧
        (∀ track : TrackRef, b.phase ≠ .lobby → s.race.raceNumber ≠ some 0 →
          let followed : Option Nat :=
            if s.clock.referee ≠ some src then none
            else match s.clock.lastBeat with
              | some l => if l.station = src then some (max 20 (min (s.clock.ticks - l.tick) 500)) else s.clock.followed
              | none => s.clock.followed
          ∀ y, Machine.exec (.raceSetup src ⟨s.race.raceNumber.getD 0, b.phase, b.green, s.race.options, track⟩) { s with
            clock := { s.clock with
              time := max now target, holdOff := now - target, conflict := false, followed := followed
              lastBeat := some ⟨src, s.clock.ticks⟩, referee := some src
              watchdog := some (min (s.clock.timeout * followed.getD s.clock.beatPeriod) 65536) } } = .next y →
          let taken : State := { y with
            dir := (s.heard src).dir
            race := { y.race with trackRef := s.race.trackRef, holdSet := b.holdSet }
            finish := { y.finish with verdictCount := max y.finish.verdictCount b.count } }
          let refused : Prop := b.phase = .countdown ∧ b.green.isSome = true ∧ y.race.holdAsked = true ∧
            s.dir.numbering = .numbered ∧ (∃ own, s.dir.number = some own ∧ b.holdSet.getLsbD own = false) ∧
            s.bus.outbound.holdState = ⟨none, none⟩
          let held : State := if refused then
              ({ taken with race := { taken.race with holdAsked := false } } : State).raise
                (.holdRefused y.race.green y.race.lights)
            else taken
          let asked : State := if y.race.phase = .results ∧ b.phase = .results ∧ y.finish.results = none ∧
              s.bus.outbound.announce = ⟨none, none⟩ then
              { held with bus := { held.bus with outbound := { held.bus.outbound with announce :=
                ⟨some ⟨.announce ⟨s.dir.serial, s.dir.pin.isSome, s.clock.eligible, s.dir.label⟩, 0⟩, none⟩ } } }
            else held
          Machine.exec (.beat src b) s = .next
            (if (y.race.phase = .racing ∨ y.race.phase = .finishing) ∧ s.race.options.policy = .coast then asked.reevaluate
            else asked)))

/-- A BEAT or RACE SETUP with another race number than the one held clears the race on a follower and starts from
what it carries (R76): the number (0 is absent, log 16), the phase and the green time, with RACE SETUP the options
and the track too (an option outside its range as carried, the model's choice, log 62). One PHASE is raised, and a
BEAT that carries a race number draws an ANNOUNCE (here with no deadline due by a target at or after local race
time). The notices are LIGHTS 0 where the old race had lights on, PHASE, and LIGHTS where the new race is in
COUNTDOWN with lights on (in these places, the model's choice, log 21). A race in LOBBY, and in a BEAT an absent race
number, are taken as well: the stations unheard too long are removed (here none is, and the Car Table and the
directory stand in step, State.TablesOk, which O8 keeps), and no ANNOUNCE is drawn without a number but for a list
that is missing in RESULTS. A BEAT's verdict count above 8 is taken as carried (the model's choice, log 56). -/
def Obligations.ANewRaceNumberClearsTheOldRace : Prop :=
  (∀ (src : Nat) (s : State), s.Hears src → s.clock.role = .follower ∨ s.clock.role = .ineligible →
      s.race.phase ≠ .detached → s.race.phase ≠ .claiming →
      let cleared (t : State) : Prop :=
        t.cars = s.cars.map CarRecord.renewed ∧ t.order = ⟨[], List.replicate 64 none, none, none, none, none⟩ ∧
          t.dir.slots = [] ∧ t.finish.waiting = [] ∧ t.finish.results = none ∧ t.race.entries = [] ∧
          t.race.lastRefusal = none ∧ t.race.enterPending = false ∧ t.race.holdAsked = false ∧
          t.race.holdTable = [] ∧ t.race.remainder = none ∧ t.kept = s.kept
      let onOrder (p : Phase) : Prop := p ≠ .detached ∧ p ≠ .claiming ∧ p ≠ .lobby
      (∀ r : RaceSetupFields, s.race.raceNumber ≠ (if r.raceNumber = 0 then none else some r.raceNumber) → onOrder r.phase →
        ∃ t, Machine.exec (.raceSetup src r) s = .next t ∧ cleared t ∧ t.clock = s.clock ∧
          t.race.raceNumber = (if r.raceNumber = 0 then none else some r.raceNumber) ∧ t.race.phase = r.phase ∧
          t.race.green = r.green ∧ t.race.options = r.options ∧ t.race.trackRef = some r.trackRef ∧
          t.race.holdSet = 0#8 ∧ t.finish.verdictCount = 0) ∧
      (∀ b : BeatFields, b.raceNumber.isSome = true → s.race.raceNumber ≠ b.raceNumber → onOrder b.phase →
        let target := b.time + s.clock.latency
        let stepped : State := { s.heard src with clock := { s.clock with time := target, holdOff := 0, conflict := false } }
        s.clock.time ≤ target + 500 → (s.clock.time ≤ target → stepped.nextDue = none) →
        ∃ t, Machine.exec (.beat src b) s = .next t ∧ cleared t ∧
          t.race.raceNumber = b.raceNumber ∧ t.race.phase = b.phase ∧ t.race.green = b.green ∧
          t.race.options = s.race.options ∧ t.race.trackRef = s.race.trackRef ∧ t.race.holdSet = b.holdSet ∧
          t.finish.verdictCount = b.count ∧ t.clock.time = max s.clock.time target ∧
          (t.bus.outbound.announce.held.isSome = true))) ∧
  (∀ (src : Nat) (s : State), s.Hears src → s.clock.role = .follower ∨ s.clock.role = .ineligible →
      s.race.phase ≠ .detached → s.race.phase ≠ .claiming →
      let told (time : Nat) (number : Option Nat) (phase : Phase) (green : Option Nat) (lightsBy : Options) : NoticeQueue :=
        let dark := if s.race.lights = 0 then s.notices else s.notices.accept ⟨time, .lights 0 none⟩
        let q := dark.accept ⟨time, .phase phase s.race.phase number none⟩
        let lights : Nat := match green with
          | some g => lightsAt lightsBy g time
          | none => 0
        if phase = .countdown ∧ lights ≠ 0 then q.accept ⟨time, .lights lights green⟩ else q
      let fresh (time : Nat) : Prop := s.dir.entries.all (fun e =>
        s.dir.number == some e.number || e.number == src || decide (time < e.lastHeard + 200 * e.unit)) = true
      let onOrder (p : Phase) : Prop := p ≠ .detached ∧ p ≠ .claiming
      let cleared (t : State) : Prop := t.cars = s.cars.map CarRecord.renewed ∧ t.race.entries = [] ∧
        t.finish.results = none ∧ t.finish.waiting = [] ∧ t.dir.slots = [] ∧
        t.order = ⟨[], List.replicate 64 none, none, none, none, none⟩ ∧ t.kept = s.kept
      (∀ r : RaceSetupFields, onOrder r.phase →
        let number : Option Nat := if r.raceNumber = 0 then none else some r.raceNumber
        s.race.raceNumber ≠ number →
        r.phase ≠ .lobby ∨ (s.TablesOk ∧ s.dir.numbering = .numbered ∧ fresh s.clock.time) →
        1 ≤ s.clock.followed.getD s.clock.beatPeriod →
        ∃ t, Machine.exec (.raceSetup src r) s = .next t ∧ cleared t ∧ t.race.phase = r.phase ∧
          t.race.raceNumber = number ∧ t.notices = told s.clock.time number r.phase r.green r.options) ∧
      (∀ b : BeatFields, onOrder b.phase → s.race.raceNumber ≠ b.raceNumber →
        let target := b.time + s.clock.latency
        let time := max s.clock.time target
        let stepped : State := { s.heard src with clock := { s.clock with time := target, holdOff := 0, conflict := false } }
        s.clock.time ≤ target + 500 → (s.clock.time ≤ target → stepped.nextDue = none) →
        b.phase ≠ .lobby ∨ (s.TablesOk ∧ s.dir.numbering = .numbered ∧ fresh time ∧
          time < s.clock.time + 200 * s.clock.followed.getD s.clock.beatPeriod) →
        ∃ t, Machine.exec (.beat src b) s = .next t ∧ cleared t ∧ t.race.phase = b.phase ∧
          t.race.raceNumber = b.raceNumber ∧ t.race.holdSet = b.holdSet ∧ t.finish.verdictCount = b.count ∧
          t.notices = told time b.raceNumber b.phase b.green s.race.options ∧
          (b.raceNumber = none → b.phase ≠ .results → t.bus.outbound.announce = s.bus.outbound.announce) ∧
          (b.raceNumber.isSome = true → t.bus.outbound.announce.held.isSome = true)))

/-- An ENTRIES of the race and phase held replaces a follower's entry list and last refusal, and sets every car by
its listed entry (the table of R28, which has no row for GRIDDED listed in LOBBY or ENTRY, nor for ENTERED or BENCHED
listed for a car held RACING, SILENT, FINISHED or RETIRED: there the car keeps its state and its slot, the model's
choice, log 37; of a station listed twice the first entry holds, log 47); a car that is not listed returns from
ENTERED or GRIDDED to IDLE. A station that is listed has its ENTER answered, and one that is refused too, with ENTRY
REFUSED. That LOBBY takes the list as well, and the order of the four steps, are the model's choice (log 16). The
notices are LIGHTS where a countdown's count is behind, BENCHED for each car the list benches (in station order, the
model's choice, log 36), ORDER where the order changes, and ENTRY REFUSED with its reason last (that order is the
model's choice too, log 16), only while an ENTER is pending. A list that carries grid slots fills the grid-slot map
anew: a slot it names stands for the first station listed with it (log 47), BENCHED ones too, and any other for none;
a list without slots leaves the map. That one entry with a slot is enough to fill it, that a slot outside 1 to 8 is
taken as carried, and that GRIDDED or BENCHED listed without a slot leaves the car without one, are the model's
choice (log 60). An ENTRIES that carries another phase moves the phase first, as a RACE SETUP of that phase with the
G held would, and then acts as one of the phase arrived in (unless its move to LOBBY made this station act; for LOBBY
the Car Table and the directory stand in step, State.TablesOk, which O8 keeps). Without a G it moves the phase no
further than GRID, and keeps one of GRID or later. From COUNTDOWN, one that carries GRID or ENTRY goes back and makes
G absent (the model's choice, log 40). -/
def Obligations.EntriesSetTheCars : Prop :=
  (∀ (src : Nat) (e : EntriesFields) (s : State), s.Hears src → s.race.raceNumber = some e.raceNumber →
      s.clock.role ≠ .acting → e.phase = s.race.phase → e.phase ≠ .detached → e.phase ≠ .claiming →
      let before (c : CarRecord) : Prop := c.state = .idle ∨ c.state = .entered ∨ c.state = .gridded
      let set (x : Entry) (c : CarRecord) : CarRecord :=
        if c.state = .benched then c
        else match x.state with
          | .entered => if before c then { c with state := .entered, slot := none } else c
          | .benched => if before c then { c with state := .benched, slot := x.slot } else c
          | .gridded =>
            if before c then
              if e.phase = .grid ∨ e.phase = .countdown then { c with state := .gridded, slot := x.slot }
              else if e.phase = .racing ∨ e.phase = .finishing ∨ e.phase = .results then
                { c with state := .racing, slot := x.slot, p := none, pmax := none }
              else c
            else { c with slot := x.slot }
      let listed (own : Nat) : Bool := e.entries.any fun x => x.station == own
      ∃ t, Machine.exec (.entries src e) s = .next t ∧
        t.race.entries = e.entries ∧ t.race.lastRefusal = e.refusal ∧ t.race.phase = s.race.phase ∧
        t.race.green = s.race.green ∧ t.clock = s.clock ∧ t.finish = s.finish ∧ t.kept = s.kept ∧
        (t.cars = s.cars.map fun (c : CarRecord) =>
          match e.entries.find? fun x => x.station == c.station with
          | some x => set x c
          | none => if c.state = .entered ∨ c.state = .gridded then { c with state := .idle, slot := none } else c) ∧
        (∀ own, s.dir.number = some own → s.dir.numbering = .numbered →
          (listed own = true → t.race.enterPending = false) ∧
          (∀ x, e.refusal = some x → listed own = false →
            (x.station = own → t.race.enterPending = false) ∧
            (x.station ≠ own → t.race.enterPending = s.race.enterPending)))) ∧
  (∀ (src : Nat) (e : EntriesFields) (s : State), s.Hears src → s.race.raceNumber = some e.raceNumber →
      s.clock.role ≠ .acting → e.phase = s.race.phase → e.phase ≠ .detached → e.phase ≠ .claiming →
      let listed (own : Nat) : Bool := e.entries.any fun x => x.station == own
      let slotted : Bool := e.entries.any fun x => x.slot.isSome
      ∃ t, Machine.exec (.entries src e) s = .next t ∧
        (slotted = false → t.dir.slots = s.dir.slots) ∧
        (slotted = true → ∀ k, (t.dir.slots.find? fun x => x.slot == k).map SlotEntry.station =
          (e.entries.find? fun x => x.slot == some k).map Entry.station) ∧
        (let benched : List NoticeBody := (s.cars.zip t.cars).filterMap fun x =>
          if x.1.state ≠ .benched ∧ x.2.state = .benched then some (.benched x.2.station x.2.slot) else none
         let lights : Nat := lightsAt s.race.options (s.race.green.getD 0) s.clock.time
         let lit : State := if s.race.phase = .countdown ∧ s.race.green.isSome = true ∧ s.race.lights ≠ lights then
          s.raise (.lights lights s.race.green) else s
         let set : State := ({ lit with cars := t.cars } : State).raiseAll benched
         let told : State := if t.cars = s.cars then set else set.reevaluate
         let refusal : Option NoticeBody := match e.refusal with
          | some x => if s.race.enterPending = true ∧ s.dir.numbering = .numbered ∧ s.dir.number = some x.station ∧
              listed x.station = false then some (.entryRefused x.reason) else none
          | none => none
         t.notices = (told.raiseAll refusal.toList).notices)) ∧
  (∀ (src : Nat) (e : EntriesFields) (s : State), s.Hears src → s.race.raceNumber = some e.raceNumber →
      s.clock.role ≠ .acting → 1 ≤ s.clock.followed.getD s.clock.beatPeriod →
      let rank : Phase → Nat
        | .detached | .claiming => 0
        | .lobby => 1 | .entry => 2 | .grid => 3 | .countdown => 4 | .racing => 5 | .finishing => 6 | .results => 7
      let held := s.race.phase
      let bounded : Prop := s.race.green = none ∧ 4 ≤ rank e.phase
      0 < rank held → 0 < rank e.phase →
      (bounded → 3 ≤ rank held →
        Machine.exec (.entries src e) s = Machine.exec (.entries src { e with phase := held }) s) ∧
      (∀ track : TrackRef, e.raceNumber ≠ 0 → (bounded → rank held < 3) → e.phase ≠ .lobby ∨ s.TablesOk →
        let carried : Phase := if bounded then .grid else e.phase
        ∀ y, Machine.exec (.raceSetup src ⟨e.raceNumber, carried, s.race.green, s.race.options, track⟩) s = .next y →
          y.clock.role ≠ .acting → Machine.exec (.entries src e) s = Machine.exec (.entries src { e with phase := y.race.phase }) { y with
            race := { y.race with trackRef := s.race.trackRef }
            bus := { y.bus with line := s.bus.line } }) ∧
      (∃ t, Machine.exec (.entries src e) s = .next t ∧ t.race.entries = e.entries ∧ t.race.lastRefusal = e.refusal ∧
        (bounded → t.race.phase = (if 3 ≤ rank held then held else .grid) ∧ t.race.green = none) ∧
        (¬bounded → rank held < rank e.phase → t.race.phase = e.phase ∧ t.race.green = s.race.green) ∧
        (held = .countdown → e.phase = .grid ∨ e.phase = .entry →
          t.race.phase = e.phase ∧ t.race.green = none ∧ t.race.lights = 0) ∧
        (held = .racing ∨ held = .finishing → 1 < rank e.phase → rank e.phase < 4 →
          t.race.phase = e.phase ∧ t.race.green = none ∧ t.race.lights = 0)))

/-! ## The referee's decisions and what followers make of them -/

/-- A VERDICT of the race held on a follower (R110 to R112). In RACING and FINISHING the car it names is FINISHED with
the position, the official tf and the marks it carries, any other car loses that position, a dead heat marks the
cars that share the time, VERDICT is raised, and RACING becomes FINISHING; one already held only adds its marks,
with a re-evaluation of the order where that changes the record (R55). The verdict count is raised to the
position, which is all it does for a car without a record and before RACING; in RESULTS and on the acting referee
it does nothing. From RACING the notices are VERDICT, ORDER where it changes, and PHASE last, and of Race Control
only the phase changes. The position of a VERDICT is taken as carried, also one above 8, and a position of 0
raises no count (the model's choice, log 56); the elapsed time of a tf that lies before G is 0 (the model's
choice, log 55). -/
def Obligations.VerdictsAreFollowed : Prop :=
  (∀ (src : Nat) (v : VerdictFields) (s : State), s.Hears src → s.race.raceNumber = some v.raceNumber →
      let count : FinishJudge := { s.finish with verdictCount := max s.finish.verdictCount v.position }
      let on : Prop := s.race.phase = .racing ∨ s.race.phase = .finishing
      let loses (c : CarRecord) : CarRecord :=
        if c.position = some v.position then { c with
          position := none, officialTf := none, provisionalTf := c.provisionalTf.or c.officialTf
          marks := { c.marks with deadHeat := false, lateJudged := false } }
        else if v.marks.deadHeat = true ∧ c.position.isSome = true ∧ c.officialTf = some v.tf then
          { c with marks := { c.marks with deadHeat := true } }
        else c
      let wins (c : CarRecord) : CarRecord :=
        let c := { c with position := some v.position, officialTf := some v.tf, marks := v.marks }
        if c.state = .benched then c else { c with state := .finished, retireReason := none, silentSince := none }
      (s.clock.role = .acting ∨ s.race.phase = .results → Machine.exec (.verdict src v) s = .next (s.heard src)) ∧
      (s.clock.role ≠ .acting → s.race.phase ≠ .results → ¬on ∨ s.car? v.station = none →
        Machine.exec (.verdict src v) s = .next { s.heard src with finish := count }) ∧
      (∀ c, s.car? v.station = some c → s.clock.role ≠ .acting → on →
        (c.position = some v.position → c.officialTf = some v.tf →
                  let marked : List CarRecord := s.cars.map fun (x : CarRecord) => if x.station = v.station then { x with marks :=
            ⟨x.marks.deadHeat || v.marks.deadHeat, x.marks.lateJudged || v.marks.lateJudged,
              x.marks.unconfirmed || v.marks.unconfirmed⟩ } else x
          let t : State := { s.heard src with cars := marked }
          Machine.exec (.verdict src v) s =
            .next { (if marked = s.cars then t else t.reevaluate) with finish := count }) ∧
        (c.position ≠ some v.position ∨ c.officialTf ≠ some v.tf → ∃ t, Machine.exec (.verdict src v) s = .next t ∧
          t.cars = s.cars.map (fun (x : CarRecord) => if x.station = v.station then wins x else loses x) ∧
          t.finish = count ∧ t.race.phase = .finishing ∧ t.race.green = s.race.green ∧
          t.race.entries = s.race.entries ∧ t.race.raceNumber = s.race.raceNumber ∧
          (s.race.phase = .finishing → t.race = s.race) ∧
          (s.race.phase = .finishing → ∀ g, s.race.green = some g → t.notices = (({ s.heard src with
            cars := t.cars } : State).raise (.verdict v.station c.slot v.position (min (v.tf - g) 4294967295)
              v.marks)).reevaluate.notices) ∧
          t.clock = s.clock ∧ t.dir = (s.heard src).dir ∧ t.bus = (s.heard src).bus ∧ t.kept = s.kept))) ∧
  (∀ (src : Nat) (v : VerdictFields) (s : State), s.Hears src → s.race.raceNumber = some v.raceNumber →
      s.clock.role ≠ .acting → s.race.phase = .racing → ∀ c, s.car? v.station = some c →
      c.position ≠ some v.position ∨ c.officialTf ≠ some v.tf → ∃ t, Machine.exec (.verdict src v) s = .next t ∧
        t.race = { s.race with phase := .finishing, enterPending := false, holdAsked := false } ∧
        ∀ g, s.race.green = some g → t.notices = ((({ s with cars := t.cars } : State).raise
          (.verdict v.station c.slot v.position (min (v.tf - g) 4294967295) v.marks)).reevaluate.raise
            (.phase .finishing .racing (some v.raceNumber) none)).notices)

/-- A HOLD STATE on the acting referee by the wish and the row it meets (R90): a starter begins to hold in GRID, or in
COUNTDOWN before the commit point, which suspends the countdown with its remainder; a row that stops holding keeps the
time it held (bounded by its allowance, log 17), and the last one starts the countdown in GRID. A wish the row already
has, a wish past the commit point, and any wish on a follower change nothing. -/
def Obligations.HoldsAreAppliedByTheReferee : Prop :=
  ∀ (s : State) (n : Nat), s.race.raceNumber = some n → ∀ src, s.Hears src →
    let h := s.heard src
    let o := s.race.options
    let change (f : HoldRow → HoldRow) : List HoldRow :=
      s.race.holdTable.map fun r => if r.station = src then f r else r
    let begun : List HoldRow := change fun r => { r with holdStart := some s.clock.time }
    let ended : List HoldRow := change fun r => match r.holdStart with
      | some b => { r with
          holdStart := none
          cumulative := r.cumulative + min (s.clock.time - b) (min o.singleHold (o.holdBudget - r.cumulative)) }
      | none => r
    let onGrid : Prop := s.race.phase = .grid ∨ s.race.phase = .countdown
    (s.clock.role ≠ .acting ∨ ¬onGrid → ∀ holding, Machine.exec (.holdState src n holding) s = .next h) ∧
    (∀ row, s.race.holdTable.find? (fun r => r.station == src) = some row → s.clock.role = .acting → onGrid →
      (s.race.entries.find? fun e => e.station == src).any (fun e => e.state ≠ .benched) = true →
      (row.holdStart.isSome = true → Machine.exec (.holdState src n true) s = .next h) ∧
      (row.holdStart = none → Machine.exec (.holdState src n false) s = .next h) ∧
      (row.holdStart = none → s.race.phase = .grid ∨ s.race.green = none →
        Machine.exec (.holdState src n true) s =
          .next { h with race := { s.race with holdTable := begun, holdSet := holdSetOf begun } }) ∧
      (∀ g, s.race.green = some g → row.holdStart = none → s.race.phase = .countdown →
        (g ≤ s.clock.time + o.lightInterval → Machine.exec (.holdState src n true) s = .next h) ∧
        (s.clock.time + o.lightInterval < g → ∃ t, Machine.exec (.holdState src n true) s = .next t ∧
          t = { h with
            race := { s.race with
              holdTable := begun, holdSet := holdSetOf begun, remainder := some (g - s.clock.time), green := none
              lights := 0 }
            notices := if s.race.lights = 0 then s.notices else s.notices.accept ⟨s.clock.time, .lights 0 none⟩ })) ∧
      (row.holdStart.isSome = true → ended.any (fun r => r.holdStart.isSome) = true →
        Machine.exec (.holdState src n false) s =
          .next { h with race := { s.race with holdTable := ended, holdSet := holdSetOf ended } }) ∧
      (row.holdStart.isSome = true → ended.all (fun r => r.holdStart.isNone) = true →
        o.minimumField ≤ (s.race.entries.filter fun e => e.state ≠ .benched).length →
        ∃ t, Machine.exec (.holdState src n false) s = .next t ∧ t.race.phase = .countdown ∧
          t.race.holdTable = ended ∧ t.race.holdSet = holdSetOf ended ∧ t.cars = s.cars ∧ t.clock = s.clock ∧
          (s.race.phase = .grid → t.race.green = some (s.clock.time + o.lightsCount * o.lightInterval)) ∧
          (∀ left, s.race.remainder = some left → s.race.phase = .countdown → s.race.green = none →
            t.race.green = some (s.clock.time + left) ∧ t.race.remainder = none)))

/-- An entrant that holds to its bench deadline is BENCHED in the entry list, its row stops holding, its record
follows (BENCHED is raised for a car of the grid), and CONTROL ENTRIES is deposited. A race whose field is then
short is abandoned. Before the deadline (log 10), on a follower, or outside GRID and COUNTDOWN nothing happens.
With the field still met the row keeps the time it held, where the deadline is met late no more than its allowance
(the model's reading of R91, log 17), and the notices (the CONTROL FIFO with room) are BENCHED for each car
benched, ORDER where it changes, and where the bench empties the hold set PHASE and LIGHTS of the countdown it
starts, or LIGHTS of the one it resumes with the remainder. -/
def Obligations.HoldersAreBenchedAtTheirDeadline : Prop :=
  (∀ (st : Nat) (s : State),
      let o := s.race.options
      (∀ row, s.race.holdTable.find? (fun r => r.station == st) = some row →
        (∀ b, row.holdStart = some b →
          let deadline := b + min o.singleHold (o.holdBudget - row.cumulative)
          let listed : List Entry := s.race.entries.map fun e => if e.station = st then { e with state := .benched } else e
          let starters := (listed.filter fun e => e.state ≠ .benched).length
          (s.clock.time < deadline ∨ s.clock.role ≠ .acting ∨ (s.race.phase ≠ .grid ∧ s.race.phase ≠ .countdown) →
            Machine.exec (.benchDeadline st) s = .next s) ∧
          (deadline ≤ s.clock.time → s.clock.role = .acting → s.race.phase = .grid ∨ s.race.phase = .countdown →
            ∃ t, Machine.exec (.benchDeadline st) s = .next t ∧ t.clock = s.clock ∧ t.kept = s.kept ∧
              (starters < o.minimumField → t.race.phase = .lobby ∧ t.race.entries = [] ∧ t.race.holdTable = [] ∧
                t.race.green = none) ∧
              (o.minimumField ≤ starters → t.race.entries = listed ∧
                t.cars = s.cars.map (applyEntries s.race.phase listed) ∧
                (∀ r, t.race.holdTable.find? (fun r => r.station == st) = some r → r.holdStart = none) ∧
                t.bus.outbound.control.getLast?.map Held.frame = some (.entries
                  ⟨s.race.raceNumber.getD 0, s.race.phase, s.race.lastRefusal, listed⟩) ∧
                (s.race.holdTable.any (fun r => r.station ≠ st && r.holdStart.isSome) = true →
                  t.race.phase = s.race.phase ∧ t.race.green = s.race.green)))) ∧
        (row.holdStart = none → Machine.exec (.benchDeadline st) s = .next s)) ∧
      (s.race.holdTable.find? (fun r => r.station == st) = none → Machine.exec (.benchDeadline st) s = .next s)) ∧
  (∀ (st : Nat) (s : State) (row : HoldRow), s.race.holdTable.find? (fun r => r.station == st) = some row →
      ∀ b, row.holdStart = some b →
      s.clock.role = .acting → s.race.phase = .grid ∨ s.race.phase = .countdown →
      let o := s.race.options
      let now := s.clock.time
      b + min o.singleHold (o.holdBudget - row.cumulative) ≤ now →
      let listed : List Entry := s.race.entries.map fun e => if e.station = st then { e with state := .benched } else e
      o.minimumField ≤ (listed.filter fun e => e.state ≠ .benched).length →
      let rows : List HoldRow := s.race.holdTable.map fun r => if r.station = st then
        match r.holdStart with
        | some x => { r with
            holdStart := none
            cumulative := r.cumulative + min (now - x) (min o.singleHold (o.holdBudget - r.cumulative)) }
        | none => r
        else r
      let last : Bool := rows.all fun r => r.holdStart.isNone
      ∃ t, Machine.exec (.benchDeadline st) s = .next t ∧ t.race.holdTable = rows ∧ t.race.holdSet = holdSetOf rows ∧
        t.race.entries = listed ∧
        (let benched : List NoticeBody := (s.cars.zip t.cars).filterMap fun x =>
          if x.1.state ≠ .benched ∧ x.2.state = .benched then some (.benched x.2.station x.2.slot) else none
         let set : State := ({ s with cars := t.cars } : State).raiseAll benched
         let told : State := if t.cars = s.cars then set else set.reevaluate
         let lit (g : Nat) : List NoticeBody :=
          if s.race.lights = lightsAt o g now then [] else [.lights (lightsAt o g now) (some g)]
         (last = false ∨ (s.race.phase = .countdown ∧ s.race.green.isSome = true) → t.race.phase = s.race.phase ∧
          t.race.green = s.race.green ∧ (s.bus.outbound.control.length < 4 → t.notices = told.notices)) ∧
         (last = true → s.race.phase = .grid →
          let g := now + o.lightsCount * o.lightInterval
          t.race.phase = .countdown ∧ t.race.green = some g ∧ t.race.lights = lightsAt o g now ∧
          (s.bus.outbound.control.length < 4 → t.notices =
            (told.raiseAll (.phase .countdown .grid s.race.raceNumber none :: lit g)).notices)) ∧
         (∀ left, s.race.remainder = some left → last = true → s.race.phase = .countdown → s.race.green = none →
          t.race.phase = .countdown ∧ t.race.green = some (now + left) ∧ t.race.remainder = none ∧
          t.race.lights = lightsAt o (now + left) now ∧
          (s.bus.outbound.control.length < 4 → t.notices = (told.raiseAll (lit (now + left))).notices))))

/-- An ENTER on the acting referee in ENTRY by the entry list (the table of R82): a station already listed stays as it
is, another signature than the race's is refused TRACK MISMATCH (any signature where the race holds none, the model's
choice, log 39), a ninth entrant FULL, and any other is appended, ENTERED, its idle record with it. CONTROL ENTRIES
with the list and the last refusal stands last in the FIFO in every case. -/
def Obligations.EntersAreDecidedByTheList : Prop :=
  ∀ (s : State) (n : Nat), s.race.raceNumber = some n → ∀ (src : Nat) (signature : Crc16), s.Hears src →
    (s.clock.role ≠ .acting ∨ s.race.phase ≠ .entry →
      Machine.exec (.entryEnter src n signature) s = .next (s.heard src)) ∧
    (s.clock.role = .acting → s.race.phase = .entry →
      let listed := s.race.entries.any fun e => e.station == src
      let fits : Prop := s.race.trackRef.map TrackRef.signature = some signature
      let entries : List Entry :=
        if listed = false ∧ fits ∧ s.race.entries.length < 8 then s.race.entries ++ [⟨src, none, .entered⟩]
        else s.race.entries
      let refusal : Option LastRefusal :=
        if listed = true then s.race.lastRefusal
        else if ¬fits then some ⟨src, .trackMismatch⟩
        else if 8 ≤ s.race.entries.length then some ⟨src, .full⟩
        else s.race.lastRefusal
      ∃ t, Machine.exec (.entryEnter src n signature) s = .next t ∧ t.race.entries = entries ∧
        t.race.lastRefusal = refusal ∧ t.race.phase = .entry ∧ t.clock = s.clock ∧ t.finish = s.finish ∧
        t.kept = s.kept ∧
        t.bus.outbound.control.getLast?.map Held.frame = some (.entries ⟨n, .entry, refusal, entries⟩) ∧
        (entries = s.race.entries → t.cars = s.cars ∧ t.order = s.order) ∧
        (∀ c, s.car? src = some c → entries ≠ s.race.entries → c.state = .idle →
          t.car? src = some { c with state := .entered, slot := none }))

/-- A LEAVE on the acting referee of a listed station (the table of R87): in ENTRY, and in GRID and COUNTDOWN with a
field that is still met, the station leaves the entry list (and the hold table), its car is IDLE again, and
CONTROL ENTRIES is deposited; a field too short on the grid ends the race. Where the field is met and the LEAVE
takes the last holding row off, the countdown starts in GRID, its green the lights count times the light interval
ahead, or the suspended one resumes in COUNTDOWN with its remainder; otherwise phase and green stay. The notices
on the grid are BENCHED for each car the list benches (in station order, the model's choice, log 36), ORDER where
it changes, then PHASE and LIGHTS of a countdown that starts, or LIGHTS of one that resumes. In RACING and
FINISHING a RACING or SILENT car is RETIRED, WITHDRAWN, with CONTROL RETIRE, and any other car stays as it is. A
station that is not listed, any LEAVE in RESULTS, and one on a follower change nothing. CAR RETIRED is raised and
CONTROL RETIRE deposited in RACING and FINISHING, last in the FIFO while another entrant keeps the race open, and
else with the RESULTS of the race behind it: the results list has one entry for each entrant with a record, in the
order of R114, each with its car's status (R115), slot, best lap and laps, and for one FINISHED with a position
its position, marks and elapsed time (IDLE as NOT CLASSIFIED and the ties of BENCHED entries: the model's choice,
log 49; of the elapsed time nothing is said without a G, log 2, or for a tf before it, log 55). -/
def Obligations.LeavesAreDecidedByThePhase : Prop :=
  (∀ (s : State) (n : Nat), s.race.raceNumber = some n → ∀ src, s.Hears src →
      let listed := s.race.entries.any fun e => e.station == src
      let left := s.race.entries.filter fun e => e.station ≠ src
      let short : Prop := (left.filter fun e => e.state ≠ .benched).length < s.race.options.minimumField
      let on : Prop := s.race.phase = .racing ∨ s.race.phase = .finishing
      let onGrid : Prop := s.race.phase = .grid ∨ s.race.phase = .countdown
      (listed = false ∨ s.clock.role ≠ .acting ∨ s.race.phase = .results →
        Machine.exec (.entryLeave src n) s = .next (s.heard src)) ∧
      (listed = true → s.clock.role = .acting → s.race.phase = .entry ∨ (onGrid ∧ ¬short) → ∃ t,
        Machine.exec (.entryLeave src n) s = .next t ∧ t.race.entries = left ∧ t.clock = s.clock ∧
        (onGrid → t.race.holdTable = s.race.holdTable.filter fun r => r.station ≠ src) ∧
        (s.race.phase = .entry → t.race.phase = .entry ∧ t.race.holdTable = s.race.holdTable) ∧
        t.bus.outbound.control.getLast?.map Held.frame =
          some (.entries ⟨n, s.race.phase, s.race.lastRefusal, left⟩) ∧
        (∀ c, s.car? src = some c → c.state = .entered ∨ c.state = .gridded →
          t.car? src = some { c with state := .idle, slot := none })) ∧
      (listed = true → s.clock.role = .acting → onGrid → short → ∃ t,
        Machine.exec (.entryLeave src n) s = .next t ∧ t.race.phase = .lobby ∧ t.race.entries = [] ∧ t.race.green = none) ∧
      (∀ c, s.car? src = some c → listed = true → s.clock.role = .acting → on →
        (c.state ≠ .racing → c.state ≠ .silent → Machine.exec (.entryLeave src n) s = .next (s.heard src)) ∧
        (c.state = .racing ∨ c.state = .silent → ∃ t, Machine.exec (.entryLeave src n) s = .next t ∧
          ∃ c', t.car? src = some c' ∧ c'.state = .retired ∧ c'.retireReason = some .withdrawn ∧ c'.silentSince = none ∧
            c'.p = c.p ∧ c'.laps = c.laps ∧ c'.report = c.report))) ∧
  (∀ (s : State) (n : Nat), s.race.raceNumber = some n → ∀ src, s.Hears src → s.clock.role = .acting →
      s.race.phase = .racing ∨ s.race.phase = .finishing → s.race.entries.any (fun e => e.station == src) = true →
      ∀ c, s.car? src = some c → c.state = .racing ∨ c.state = .silent →
      let retire : Frame := .retire n src .withdrawn
      let running (x : State) (e : Entry) : Bool := decide (e.state ≠ .benched) && (x.car? e.station).any fun c =>
        decide (c.state ≠ .retired) && !(decide (c.state = .finished) && c.position.isSome)
      let others : Bool := s.race.entries.any fun e => e.station != src && running s e
      ∃ t, Machine.exec (.entryLeave src n) s = .next t ∧
        (others = true → t.race = s.race ∧ t.bus.outbound.control.getLast? = some ⟨retire, 0⟩ ∧
          (s.bus.outbound.control.length < 4 → t.notices =
            ((({ s with cars := t.cars } : State).raise (.carRetired src c.slot .withdrawn c.p)).reevaluate).notices)) ∧
        (others = false →
          let retired : List CarRecord := s.cars.map fun (x : CarRecord) => if x.station = src then
            { x with
              state := .retired, retireReason := some .withdrawn, silentSince := none, provisionalTf := none
              marks := { x.marks with unconfirmed := false } }
            else x
          t.race.phase = .results ∧ ∃ list, t.finish.results = some ⟨n, list⟩ ∧
          ResultsShow s.race.green retired s.race.entries list ∧
          [retire, .results n list] <:+ t.bus.outbound.control.map Held.frame)) ∧
  (∀ (s : State) (n : Nat), s.race.raceNumber = some n → ∀ src, s.Hears src → s.clock.role = .acting →
      s.race.phase = .grid ∨ s.race.phase = .countdown → s.race.entries.any (fun e => e.station == src) = true →
      let o := s.race.options
      let now := s.clock.time
      let entrants : List Entry := s.race.entries.filter fun e => e.station ≠ src
      o.minimumField ≤ (entrants.filter fun e => e.state ≠ .benched).length →
      let rows : List HoldRow := s.race.holdTable.filter fun r => r.station ≠ src
      let last : Bool := rows.all fun r => r.holdStart.isNone
      ∃ t, Machine.exec (.entryLeave src n) s = .next t ∧ t.race.holdTable = rows ∧ t.race.holdSet = holdSetOf rows ∧
        t.race.entries = entrants ∧
        (let benched : List NoticeBody := (s.cars.zip t.cars).filterMap fun x =>
          if x.1.state ≠ .benched ∧ x.2.state = .benched then some (.benched x.2.station x.2.slot) else none
         let set : State := ({ s with cars := t.cars } : State).raiseAll benched
         let told : State := if t.cars = s.cars then set else set.reevaluate
         let lit (g : Nat) : List NoticeBody :=
          if s.race.lights = lightsAt o g now then [] else [.lights (lightsAt o g now) (some g)]
         (last = false ∨ (s.race.phase = .countdown ∧ s.race.green.isSome = true) → t.race.phase = s.race.phase ∧
          t.race.green = s.race.green ∧ (s.bus.outbound.control.length < 4 → t.notices = told.notices)) ∧
         (last = true → s.race.phase = .grid →
          let g := now + o.lightsCount * o.lightInterval
          t.race.phase = .countdown ∧ t.race.green = some g ∧ t.race.lights = lightsAt o g now ∧
          (s.bus.outbound.control.length < 4 → t.notices =
            (told.raiseAll (.phase .countdown .grid s.race.raceNumber none :: lit g)).notices)) ∧
         (∀ remaining, s.race.remainder = some remaining → last = true → s.race.phase = .countdown →
          s.race.green = none →
          t.race.phase = .countdown ∧ t.race.green = some (now + remaining) ∧ t.race.remainder = none ∧
          t.race.lights = lightsAt o (now + remaining) now ∧
          (s.bus.outbound.control.length < 4 → t.notices = (told.raiseAll (lit (now + remaining))).notices))))

/-! ## Silence, retirement, results, the grid and the return to LOBBY -/

/-- A RACING car unheard for more than the silence limit, counted from the later of its last report and G (from the
one that is there where the other is absent, the model's choice, log 34), falls SILENT while the race is on: its
silence is dated, CAR SILENT is raised, and the order is re-evaluated. Any other car, and the same car up to that
moment, is left alone (log 10). A RETIRE applied on a follower while the race is on (log 18), and the retire limit
on the acting referee (R30, R98): a RACING or SILENT car, and a FINISHED one without a position, is RETIRED with
the reason, its provisional finish withdrawn, and CAR RETIRED is raised. The referee also deposits CONTROL RETIRE,
and the race goes on while an entrant that is not BENCHED has a car neither RETIRED nor FINISHED with an official
position (R100). A car that is none of these, or not yet past the retire limit, is left alone. While the race goes
on and the CONTROL FIFO has room the referee's notices too are CAR RETIRED and ORDER where it changes. Where the
retired car was the last to keep the race open it ends in RESULTS, and the results list has one entry for each
entrant with a record, in the order of R114, each with its car's status (R115), slot, best lap and laps, and for
one FINISHED with a position its position, marks and elapsed time (IDLE as NOT CLASSIFIED and the ties of BENCHED
entries: the model's choice, log 49; of the elapsed time nothing is said without a G, log 2, or for a tf before
it, log 55). -/
def Obligations.CarsFallSilentAndRetire : Prop :=
  (∀ (s : State) (st : Nat) (c : CarRecord), s.car? st = some c →
      let reference : Option Nat := match c.report, s.race.green with
        | some r, some g => some (max r.stamp g)
        | some r, none => some r.stamp
        | none, green => green
      let on : Prop := s.race.phase = .racing ∨ s.race.phase = .finishing
      (¬on ∨ c.state ≠ .racing ∨ reference.all (fun t => s.clock.time ≤ t + s.race.options.silenceLimit) = true →
        Machine.exec (.carSilent st) s = .next s) ∧
      (∀ t, reference = some t → on → c.state = .racing → t + s.race.options.silenceLimit < s.clock.time →
        Machine.exec (.carSilent st) s = .next (({ s with cars := s.cars.map fun (x : CarRecord) =>
          if x.station = st then { x with state := .silent, silentSince := some s.clock.time } else x } : State).raise
            (.carSilent st c.slot c.p)).reevaluate)) ∧
  (∀ (s : State) (st : Nat) (c : CarRecord), s.car? st = some c →
      let on : Prop := s.race.phase = .racing ∨ s.race.phase = .finishing
      let running (x : State) (e : Entry) : Bool := decide (e.state ≠ .benched) && (x.car? e.station).any fun c =>
        decide (c.state ≠ .retired) && !(decide (c.state = .finished) && c.position.isSome)
      let live : Prop := c.state = .racing ∨ c.state = .silent
      let retirable : Prop := live ∨ (c.state = .finished ∧ c.provisionalTf.isSome = true ∧ c.position = none)
      let retired (reason : RetireReason) (h : State) : State := (({ h with
        cars := s.cars.map fun (x : CarRecord) => if x.station = st then { x with
          state := .retired, retireReason := some reason, silentSince := none, provisionalTf := none
          marks := { x.marks with unconfirmed := false } } else x
        finish := { s.finish with waiting := s.finish.waiting.filter fun x => x.station ≠ st } } : State).raise
          (.carRetired st c.slot reason c.p)).reevaluate
      let reference : Option Nat := match c.report, s.race.green with
        | some r, some g => some (max r.stamp g)
        | some r, none => some r.stamp
        | none, green => green
      let past : Prop := reference.any (fun t => t + s.race.options.retireLimit < s.clock.time) = true
      (∀ n, s.race.raceNumber = some n → ∀ (src : Nat) (reason : RetireReason), s.Hears src →
        (s.clock.role = .acting ∨ ¬on ∨ ¬retirable → Machine.exec (.retire src n st reason) s = .next (s.heard src)) ∧
        (s.clock.role ≠ .acting → on → retirable →
          Machine.exec (.retire src n st reason) s = .next (retired reason (s.heard src)))) ∧
      (s.clock.role ≠ .acting ∨ ¬on ∨ ¬live ∨ ¬past → Machine.exec (.retireLimit st) s = .next s) ∧
      (s.clock.role = .acting → on → live → past → ∃ t, Machine.exec (.retireLimit st) s = .next t ∧
        (∃ c', t.car? st = some c' ∧ c'.state = .retired ∧ c'.retireReason = some .silence ∧ c'.p = c.p ∧ c'.laps = c.laps) ∧
        t.clock = s.clock ∧ t.kept = s.kept ∧
        ((retired .silence s).race.entries.any (running (retired .silence s)) = true →
          t.race = s.race ∧ t.cars = (retired .silence s).cars ∧ t.order = (retired .silence s).order ∧
          t.finish = (retired .silence s).finish ∧
          t.bus.outbound.control.getLast?.map Held.frame = some (.retire (s.race.raceNumber.getD 0) st .silence)) ∧
        ((retired .silence s).race.entries.any (running (retired .silence s)) = false →
          t.race.phase = .results ∧ ∃ list, t.finish.results = some ⟨s.race.raceNumber.getD 0, list⟩ ∧
            ResultsShow s.race.green (retired .silence s).cars s.race.entries list))) ∧
  (∀ (s : State) (st : Nat) (c : CarRecord), s.car? st = some c → s.clock.role = .acting →
      s.race.phase = .racing ∨ s.race.phase = .finishing → c.state = .racing ∨ c.state = .silent →
      ∀ g, s.race.green = some g →
      max g ((c.report.map Report.stamp).getD 0) + s.race.options.retireLimit < s.clock.time →
      let running (x : State) (e : Entry) : Bool := decide (e.state ≠ .benched) && (x.car? e.station).any fun c =>
        decide (c.state ≠ .retired) && !(decide (c.state = .finished) && c.position.isSome)
      s.race.entries.any (fun e => e.station != st && running s e) = true → s.bus.outbound.control.length < 4 →
      ∃ t, Machine.exec (.retireLimit st) s = .next t ∧ t.race = s.race ∧
        t.bus.outbound.control.getLast? = some ⟨.retire (s.race.raceNumber.getD 0) st .silence, 0⟩ ∧
        t.notices = ((({ s with cars := t.cars } : State).raise (.carRetired st c.slot .silence c.p)).reevaluate).notices)

/-- A RESULTS of the race held, on a follower in RACING, FINISHING or RESULTS, with no station and no position listed
twice (R117): the list is held whole, the phase is RESULTS, the verdict count is the number of FINISHED entries; a
FINISHED car holds the position, the marks and G plus the elapsed time listed, a NOT CLASSIFIED car has no finish
left and is RACING or SILENT, a RETIRED or BENCHED car is that, and a car the list does not name keeps its state. A
position or slot of 9 to 15 and laps beyond the race's are taken as carried (the model's choice, log 61). A BENCHED
car that the list names FINISHED, RETIRED or NOT CLASSIFIED is moved so too (R32), where R31 keeps it BENCHED until
the race is cleared: the model's choice, log 35; so is that NOT CLASSIFIED clears the unconfirmed mark of a car
without a provisional finish, log 50. RESULTS is raised last, with the own entry, but for a list held before.
Elsewhere nothing happens. From RACING and FINISHING the notices are PHASE, ORDER where it changes, and RESULTS, but
for a list held before. -/
def Obligations.ResultsAreTakenWhole : Prop :=
  (∀ (s : State) (n : Nat), s.race.raceNumber = some n → ∀ (src : Nat) (list : List ResultEntry), s.Hears src →
      let on : Prop := s.race.phase = .racing ∨ s.race.phase = .finishing ∨ s.race.phase = .results
      (s.clock.role = .acting ∨ ¬on → Machine.exec (.results src n list) s = .next (s.heard src)) ∧
      (s.clock.role ≠ .acting → on → (list.map ResultEntry.station).Nodup →
        ((list.filter fun e => e.status = .finished).map ResultEntry.position).Nodup →
        list.all (fun e => e.status ≠ .finished || e.position.isSome) = true → ∃ t,
        Machine.exec (.results src n list) s = .next t ∧ t.finish.results = some ⟨n, list⟩ ∧ t.race.phase = .results ∧
        t.finish.verdictCount = (list.filter fun e => e.status = .finished).length ∧ t.clock = s.clock ∧
        t.dir = (s.heard src).dir ∧ t.bus = (s.heard src).bus ∧ t.kept = s.kept ∧ t.race.green = s.race.green ∧
        (s.finish.results = some ⟨n, list⟩ → s.race.phase = .results →
          t.notices = (({ s.heard src with cars := t.cars } : State).reevaluate).notices) ∧
        (∀ e, e ∈ list → (s.car? e.station).all (fun c => (t.car? e.station).any fun c' =>
          match e.status with
          | .finished => c'.state == .finished && c'.position == e.position && c'.marks == e.marks &&
              (match e.tfElapsed, s.race.green with
                | some x, some g => c'.officialTf == some (g + x)
                | some _, none => true
                | none, _ => c'.officialTf == none)
          | .notClassified => c'.position == none && c'.officialTf == none && c'.provisionalTf == none &&
              c'.marks == Marks.clear && c'.state == (if c.state = .silent then .silent else .racing)
          | .retired => c'.state == .retired && c'.position == none && c'.officialTf == none
          | .benched => c'.state == .benched && c'.position == none && c'.officialTf == none) = true) ∧
        (s.finish.results ≠ some ⟨n, list⟩ → s.race.phase = .results →
          let own := s.ownStation.bind fun k => list.find? fun e => e.station == k
          t.notices = (({ s.heard src with cars := t.cars } : State).reevaluate.raise
            (.results n list.length (own.bind ResultEntry.position) (own.map ResultEntry.status))).notices) ∧
        (∀ st c, s.car? st = some c → list.any (fun e => e.station == st) = false →
          (t.car? st).any (fun c' => c'.state == c.state && c'.report == c.report && c'.p == c.p && c'.laps == c.laps) =
            true))) ∧
  (∀ (s : State) (n : Nat), s.race.raceNumber = some n → ∀ (src : Nat) (list : List ResultEntry), s.Hears src →
      s.clock.role ≠ .acting → s.race.phase = .racing ∨ s.race.phase = .finishing →
      ∃ t, Machine.exec (.results src n list) s = .next t ∧
        t.race = { s.race with phase := .results, enterPending := false, holdAsked := false } ∧
        (let own := s.ownStation.bind fun k => list.find? fun e => e.station == k
         let told : State := ({ s with cars := t.cars, race := t.race } : State).raise
          (.phase .results s.race.phase (some n) none)
         t.notices = (told.reevaluate.raiseAll (if s.finish.results = some ⟨n, list⟩ then []
          else [.results n list.length (own.bind ResultEntry.position) (own.map ResultEntry.status)])).notices))

/-- FORM GRID by its checks, in order: REFUSED ROLE unless ACTING, REFUSED STATE outside ENTRY, BAD VALUE for more
than 8 stations or a number above 7, FIELD SHORT below the minimum field. Taken, and also when the entry window ends
with the field met, it puts the entrants on the grid: those named in list order, each at its first naming, then the
others by station number, slots counted from 1, which fill the grid-slot map; all GRIDDED and holding from now; the
phase GRID, and CONTROL ENTRIES deposited. The notices are ENTRY REFUSED where this station's own ENTER was pending
and refused, PHASE, and ORDER where it changes (here with room in the CONTROL FIFO). A window that ends with a short
field ends the race; before its deadline nothing happens (log 10). -/
def Obligations.TheGridIsFormed : Prop :=
  ∀ (s : State) (named : List Nat),
    let request : Request := .formGrid (.form named)
    let refused (code : ResultCode) : State := { s with link := s.link.answered request ⟨code, .empty⟩ }
    let acts : Prop := s.clock.role = .acting
    let formed (t : State) (named : List Nat) : Prop :=
      let order := t.race.entries.map Entry.station
      let first := order.filter fun st => st ∈ named
      let rest := order.filter fun st => st ∉ named
      t.race.phase = .grid ∧ order.Perm (s.race.entries.map Entry.station) ∧ order = first ++ rest ∧
        first.Pairwise (fun a b => named.idxOf a < named.idxOf b) ∧ rest.Pairwise (· < ·) ∧
        t.race.entries = order.zipIdx.map (fun x => ⟨x.1, some (x.2 + 1), .gridded⟩) ∧
        t.race.holdTable = order.map (fun st => ⟨st, some s.clock.time, 0⟩) ∧ t.race.entryDeadline = none ∧
        t.race.raceNumber = s.race.raceNumber ∧ t.race.options = s.race.options ∧ t.clock = s.clock ∧
        t.finish = s.finish ∧ t.dir.slots = order.zipIdx.map (fun x => ⟨x.2 + 1, x.1⟩) ∧ t.race.enterPending = false ∧
        (let refusal : Option NoticeBody := match s.ownStation, s.race.lastRefusal with
          | some own, some x => if s.race.enterPending = true ∧ x.station = own ∧
              s.race.entries.all (fun e => e.station != own) = true then some (.entryRefused x.reason) else none
          | _, _ => none
         let phased : State := ({ s with cars := t.cars, race := t.race } : State).raiseAll
          (refusal.toList ++ [.phase .grid .entry s.race.raceNumber none])
         s.bus.outbound.control.length < 4 →
          t.notices = (if t.cars = s.cars then phased else phased.reevaluate).notices) ∧
        t.bus.outbound.control.getLast?.map Held.frame =
          some (.entries ⟨s.race.raceNumber.getD 0, .grid, s.race.lastRefusal, t.race.entries⟩) ∧
        (∀ c, c ∈ s.cars → c.state = .entered → c.station ∈ order →
          { c with state := .gridded, slot := some (order.idxOf c.station + 1) } ∈ t.cars)
    (s.link.Ready →
      (¬acts → Machine.exec (.formGrid (.form named)) s = .next (refused .refusedRole)) ∧
      (acts → s.race.phase ≠ .entry → Machine.exec (.formGrid (.form named)) s = .next (refused .refusedState)) ∧
      (acts → s.race.phase = .entry → 8 < named.length ∨ named.any (fun st => 7 < st) = true →
        Machine.exec (.formGrid (.form named)) s = .next (refused .badValue)) ∧
      (acts → s.race.phase = .entry → named.length ≤ 8 → named.all (fun st => st ≤ 7) = true →
        (s.race.entries.length < s.race.options.minimumField →
          Machine.exec (.formGrid (.form named)) s = .next (refused .fieldShort)) ∧
        (s.race.options.minimumField ≤ s.race.entries.length → (s.race.entries.map Entry.station).Nodup →
          ∃ t, Machine.exec (.formGrid (.form named)) s = .next t ∧ formed t named ∧
            t.link = s.link.answered request ⟨.done, .empty⟩))) ∧
    (¬acts ∨ s.race.phase ≠ .entry ∨ s.race.entryDeadline.all (fun d => s.clock.time < d) = true →
      Machine.exec .entryWindow s = .next s) ∧
    (∀ d, s.race.entryDeadline = some d → acts → s.race.phase = .entry → d ≤ s.clock.time →
      (s.race.options.minimumField ≤ s.race.entries.length → (s.race.entries.map Entry.station).Nodup →
        ∃ t, Machine.exec .entryWindow s = .next t ∧ formed t [] ∧ t.link = s.link) ∧
      (s.race.entries.length < s.race.options.minimumField → ∃ t, Machine.exec .entryWindow s = .next t ∧
        t.race.phase = .lobby ∧ t.race.entries = [] ∧ t.race.entryDeadline = none))

/-- ABORT (REFUSED ROLE unless ACTING, REFUSED STATE outside ENTRY to FINISHING), CLOSE (the same, outside RESULTS)
and a CONTROL ABORT of the race held heard on a follower in a race phase all return to LOBBY with the race cleared:
every record as new but for its last report, the order, the results, the slots, the entry list and every field of Race
Control but the race number, the options and the track; the frames of the race leave the Outbound Table, LIGHTS is
raised where the lights count falls to 0 (R96), and PHASE names the reason. ABORT also deposits CONTROL ABORT. Here no
other station's entry is old enough to be removed. A CONTROL ABORT outside a race phase changes nothing. That LIGHTS
stands before PHASE is the model's choice (log 21), and that CONTROL ABORT is taken in every race phase (log 16). -/
def Obligations.RacesEndInTheLobby : Prop :=
  ∀ s : State,
    let acts : Prop := s.clock.role = .acting
    let fresh (es : List DirEntry) : Prop :=
      es.all (fun e => s.ownStation == some e.number || decide (s.clock.time < e.lastHeard + 200 * e.unit)) = true
    let refused (r : Request) (code : ResultCode) : State := { s with link := s.link.answered r ⟨code, .empty⟩ }
    let abort : Request := .abort (.form ())
    let close : Request := .close (.form ())
    let o := s.bus.outbound
    let race : RaceControl := { s.race with
      phase := .lobby, entries := [], lastRefusal := none, green := none, remainder := none, lights := 0
      holdSet := 0#8, enterPending := false, holdAsked := false, holdTable := [], entryDeadline := none
      graceDeadline := none }
    let kept := o.control.filter fun h => h.frame.isAbort
    let lobby (reason : LobbyReason) (control : List Held) (h : State) : State := { h with
      cars := s.cars.map CarRecord.renewed
      order := ⟨[], List.replicate 64 none, none, none, none, none⟩
      race := race
      finish := ⟨0, [], none⟩
      dir := { h.dir with slots := [] }
      bus := { h.bus with outbound := { o with
        verdict := [], holdState := ⟨none, none⟩, control := control, entry := ⟨none, none⟩, report := ⟨none, none⟩ } }
      notices := (if s.race.lights = 0 then s.notices else s.notices.accept ⟨s.clock.time, .lights 0 none⟩).accept
        ⟨s.clock.time, .phase .lobby s.race.phase s.race.raceNumber (some reason)⟩ }
    (s.link.Ready →
      (¬acts → Machine.exec (.abort (.form ())) s = .next (refused abort .refusedRole) ∧
        Machine.exec (.close (.form ())) s = .next (refused close .refusedRole)) ∧
      (acts → ((s.race.phase = .detached ∨ s.race.phase = .claiming ∨ s.race.phase = .lobby ∨ s.race.phase = .results) →
          Machine.exec (.abort (.form ())) s = .next (refused abort .refusedState)) ∧
        (s.race.phase ≠ .results → Machine.exec (.close (.form ())) s = .next (refused close .refusedState)) ∧
        (s.race.phase = .results → fresh s.dir.entries → s.bus.inFlight = none → Machine.exec (.close (.form ())) s =
          .next { lobby .closed kept s with link := s.link.answered close ⟨.done, .empty⟩ }) ∧
        (s.race.phase ≠ .detached → s.race.phase ≠ .claiming → s.race.phase ≠ .lobby → s.race.phase ≠ .results →
          fresh s.dir.entries → s.bus.inFlight = none → o.control.length < 4 → Machine.exec (.abort (.form ())) s =
            .next { lobby .requested (kept ++ [⟨.abort (s.race.raceNumber.getD 0) .requested, 0⟩]) s with
              link := s.link.answered abort ⟨.done, .empty⟩ }))) ∧
    (∀ n, s.race.raceNumber = some n → ∀ (src : Nat) (reason : AbortReason), s.Hears src →
      (acts ∨ s.race.phase = .lobby ∨ s.race.phase = .claiming ∨ s.race.phase = .detached →
        Machine.exec (.controlAbort src n reason) s = .next (s.heard src)) ∧
      (¬acts → s.race.phase ≠ .lobby → s.race.phase ≠ .claiming → s.race.phase ≠ .detached →
        s.clock.role ≠ .waiting → fresh (s.heard src).dir.entries →
        s.bus.inFlight = none → Machine.exec (.controlAbort src n reason) s =
          .next (lobby (match reason with | .requested => .requested | .abandoned => .abandoned) kept (s.heard src))))

/-! ## The bus line, time, and numbers -/

/-- FRAME START, from IDLE alone, puts the first frame of the lowest class that may contend on the line, with this
station's number as its source, a CLAIM with 7: NUMBERED every kind but CLAIM, CLAIMING the CLAIM, CONFLICT the
ANNOUNCE, LISTENING and DETACHED nothing; a BEAT gets its contents then. A frame that loses arbitration stays
pending. An attempt that is acknowledged takes the frame out; one that is not, or that mismatches, counts, and the
last one that the kind is allowed gives it up: TX FAILED for VERDICT, HOLD STATE, CONTROL and ENTRY, the dropped
count for a REPORT. A mismatch also draws an ANNOUNCE but for a CLAIM. Events outside an own frame change nothing
(logs 11, 12). That the end or mismatch of an attempt taken while the line is ARBITRATING counts as one of an
attempt that won is the model's choice (log 11; R149 has a mismatch inside arbitration lose it with the count
unchanged, which is the event of a lost arbitration). A REPORT deposited replaces an unsent one, waits behind one
in flight, or replaces the one that waits there, the replaced ones counted. A frame waiting in the follow-up place
takes the slot, with no attempt made, however the attempt ends; a REPORT so replaced that was not heard counts as
superseded, and no notice is raised. A frame purged while in flight ends without effect, a mismatch of it
announcing nothing, and one deposited behind it takes the slot (the model's reading of R161, log 14). A deposit
fills its slot or replaces the unsent frame in it, or waits behind one in flight. The FIFOs hold 8 VERDICT and 4
CONTROL: a RACE SETUP, ENTRIES or RESULTS removes the unsent one of its kind, and a full FIFO gives up its oldest
unsent frame with TX FAILED, cause DISPLACED; a head in flight stays. -/
def Obligations.FramesAreSentAndRetried : Prop :=
  (∀ s : State,
      let o := s.bus.outbound
      let first : Option Held := match s.dir.numbering with
        | .numbered => [o.beat.held, o.verdict.head?, o.holdState.held, o.control.head?, o.entry.held, o.report.held,
            o.announce.held].findSome? id
        | .claiming => o.claim.held
        | .conflict => o.announce.held
        | .listening | .detached => none
      let sent (f : Frame) : Frame := match f with
        | .beat _ => .beat (some ⟨s.clock.time, s.race.phase, s.race.raceNumber, s.race.green, s.race.holdSet,
            s.finish.verdictCount⟩)
        | other => other
      let limit : FrameKind → Nat
        | .beat => 1 | .report => 2 | .announce | .claim => 3 | .verdict | .holdState | .control | .entry => 8
      let onLine : Prop := s.bus.line = .arbitrating ∨ s.bus.line = .sending
      (∀ won, (first = none ∨ s.bus.line ≠ .idle ∨ s.bus.leaving ≠ .no → Machine.exec (.frameStart won) s = .next s) ∧
        (∀ h, first = some h → s.bus.line = .idle → s.bus.leaving = .no → Machine.exec (.frameStart won) s =
          .next { s with bus := { s.bus with
            line := if won then .sending else .arbitrating, inFlight := some ⟨h.frame.kind, match h.frame with
              | .claim _ _ => 7
              | _ => s.dir.number.getD 7, sent h.frame, none⟩ } })) ∧
      (s.bus.inFlight = none ∨ ¬onLine → ∀ a b, Machine.exec (.attemptEnd a b) s = .next s ∧
        Machine.exec .mismatch s = .next s ∧ Machine.exec .arbitrationLost s = .next s) ∧
      (∀ fl, s.bus.inFlight = some fl → onLine → s.bus.leaving = .no → fl.purged = none → o.followUp fl.kind = none →
        (s.bus.line = .arbitrating → (o.frames fl.kind).isEmpty = false → Machine.exec .arbitrationLost s =
          .next { s with bus := { s.bus with line := .receiving, inFlight := none } }) ∧
        (∀ h, (o.frames fl.kind).head? = some h → fl.kind ≠ .claim →
          let put (head : Option Held) : Outbound :=
            o.update fl.kind (fun _ => ⟨head, none⟩) (fun q => head.toList ++ q.drop 1)
          let ended (head : Option Held) : State :=
            { s with bus := { s.bus with line := .busy, inFlight := none, outbound := put head } }
          (∀ objected, Machine.exec (.attemptEnd true objected) s = .next (ended none)) ∧
          (∀ objected, h.attempts + 1 < limit fl.kind →
            Machine.exec (.attemptEnd false objected) s = .next (ended (some ⟨h.frame, h.attempts + 1⟩))) ∧
          (let failed : State :=
            if h.attempts + 1 < limit fl.kind then ended (some ⟨h.frame, h.attempts + 1⟩)
            else match fl.frame.kind with
              | .verdict | .holdState | .control | .entry => (ended none).raise
                (.txFailed fl.frame.kind fl.frame.subkind fl.frame.raceNumber (h.attempts + 1) .unheard)
              | .report => { ended none with
                  bus := { (ended none).bus with droppedReports := min (s.bus.droppedReports + 1) 65535 } }
              | .beat | .announce | .claim => ended none
           (∀ objected, Machine.exec (.attemptEnd false objected) s = .next failed) ∧
           Machine.exec .mismatch s = .next (if s.ownStation.isSome then failed.announce else failed)))) ∧
      (∀ fl, s.bus.inFlight = some fl → onLine → fl.kind = .claim →
        Machine.exec .mismatch s = Machine.exec (.attemptEnd false false) s) ∧
      (∀ (n : Nat) (r : Report),
        let slot := o.report
        let put (sl : Slot) (replaced : Bool) : State := { s with bus := { s.bus with
          outbound := { o with report := sl }
          superseded := if replaced then min (s.bus.superseded + 1) 65535 else s.bus.superseded } }
        (slot.held = none → slot.followUp = none →
          s.deposit (.report n r) = put ⟨some ⟨.report n r, 0⟩, none⟩ false) ∧
        (slot.held.isSome = true → slot.followUp = none → s.flying .report = false →
          s.deposit (.report n r) = put ⟨some ⟨.report n r, 0⟩, none⟩ true) ∧
        (slot.held.isSome = true → s.flying .report = true →
          s.deposit (.report n r) = put ⟨slot.held, some (.report n r)⟩ slot.followUp.isSome))) ∧
  (∀ s : State,
      let o := s.bus.outbound
      let onLine : Prop := s.bus.line = .arbitrating ∨ s.bus.line = .sending
      let placed (o' : Outbound) : State := { s with bus := { s.bus with outbound := o' } }
      (∀ fl, s.bus.inFlight = some fl → onLine → s.bus.leaving = .no →
        let out (line : LineState) (o' : Outbound) : State :=
          { s with bus := { s.bus with line := line, inFlight := none, outbound := o' } }
        (∀ f, o.followUp fl.kind = some f → fl.purged = none → fl.kind ≠ .claim →
          let moved (line : LineState) : State := out line (o.update fl.kind (fun _ => ⟨some ⟨f, 0⟩, none⟩) id)
          let counted (t : State) : State := if fl.kind = .report then
            { t with bus := { t.bus with superseded := min (s.bus.superseded + 1) 65535 } } else t
          (∀ objected, Machine.exec (.attemptEnd true objected) s = .next (moved .busy) ∧
            Machine.exec (.attemptEnd false objected) s = .next (counted (moved .busy))) ∧
          Machine.exec .mismatch s = .next (if s.ownStation.isSome then (counted (moved .busy)).announce
            else counted (moved .busy)) ∧
          (s.bus.line = .arbitrating → Machine.exec .arbitrationLost s = .next (counted (moved .receiving)))) ∧
        (fl.purged = some .raceOrNumber → fl.kind ≠ .claim ∨ s.dir.numbering ≠ .claiming →
          let left : Outbound := o.update fl.kind (fun sl => ⟨sl.followUp.map fun f => ⟨f, 0⟩, none⟩) (List.drop 1)
          (∀ heard objected, Machine.exec (.attemptEnd heard objected) s = .next (out .busy left)) ∧
          Machine.exec .mismatch s = .next (out .busy left) ∧
          (s.bus.line = .arbitrating → Machine.exec .arbitrationLost s = .next (out .receiving left)))) ∧
      (∀ f : Frame, f.kind ≠ .verdict → f.kind ≠ .control → f.kind ≠ .report →
        s.deposit f = placed (o.update f.kind (fun sl =>
          if s.flying f.kind = true ∧ sl.held.isSome = true then ⟨sl.held, some f⟩ else ⟨some ⟨f, 0⟩, sl.followUp⟩) id)) ∧
      (∀ f : Frame, f.kind = .verdict ∨ f.kind = .control →
        let q := o.frames f.kind
        let flying := s.flying f.kind
        let replaces : Bool := match f with
          | .raceSetup _ | .entries _ | .results _ _ => true
          | _ => false
        let head := if flying then q.take 1 else []
        let unsent := (if flying then q.drop 1 else q).filter fun h => !(replaces && h.frame.subkind == f.subkind)
        let capacity := if f.kind = .verdict then 8 else 4
        (head.length + unsent.length < capacity →
          s.deposit f = placed (o.update f.kind id fun _ => head ++ unsent ++ [⟨f, 0⟩])) ∧
        (∀ old, unsent.head? = some old → capacity ≤ head.length + unsent.length →
          s.deposit f = (placed (o.update f.kind id fun _ => head ++ unsent.drop 1 ++ [⟨f, 0⟩])).raise
            (.txFailed old.frame.kind old.frame.subkind old.frame.raceNumber old.attempts .displaced))))

/-- The other events of the line: 12 recessive bit-times end BUSY in IDLE and STUCK in IDLE, with BUS CLEAR and the
ticks spent stuck; a dominant run in any state but OFF and STUCK makes the line STUCK, with BUS STUCK, which names
an own frame that had won arbitration and ends its attempt, counted as an unheard one is: the frame stays in its
place, or at the limit of its kind is given up (TX FAILED before BUS STUCK, or the dropped count); one that had
not won stays pending; a frame in SENDING that a purge met, or a BEAT that a yield dropped, is named as well (the
model's choice, log 57); a bad frame is counted, up to 255, and not acknowledged. Each of them changes nothing in
a line state that does not admit it (log 12). -/
def Obligations.LineEventsMoveTheLineState : Prop :=
  ∀ s : State,
    (s.bus.line = .busy → Machine.exec .lineIdle s = .next { s with bus := { s.bus with line := .idle } }) ∧
    (s.bus.line ≠ .busy → Machine.exec .lineIdle s = .next s) ∧
    (s.bus.line = .stuck → Machine.exec .busClear s =
      .next (({ s with bus := { s.bus with line := .idle, stuckTicks := 0 } } : State).raise
        (.busClear (min s.bus.stuckTicks 4294967295)))) ∧
    (s.bus.line ≠ .stuck → Machine.exec .busClear s = .next s) ∧
    (s.bus.line = .off ∨ s.bus.line = .stuck → Machine.exec .busStuck s = .next s) ∧
    (s.bus.line = .busy ∨ s.bus.line = .idle ∨ s.bus.line = .receiving ∨ s.bus.line = .arbitrating →
      s.bus.leaving = .no →
      (s.bus.inFlight.all fun fl => fl.purged = none ∧ s.bus.outbound.followUp fl.kind = none) = true →
      ∃ t, Machine.exec .busStuck s = .next t ∧
        t.bus.line = .stuck ∧ t.bus.stuckTicks = 0 ∧ t.bus.inFlight = none ∧
        t = ({ s with bus := { s.bus with line := .stuck, stuckTicks := 0, inFlight := none, outbound := t.bus.outbound } }
          : State).raise (.busStuck none none) ∧
        (s.bus.inFlight = none ∨ s.bus.line = .arbitrating →
          ∀ k, (t.bus.outbound.frames k) = (s.bus.outbound.frames k))) ∧
    (∀ fl, s.bus.inFlight = some fl → s.bus.leaving = .no →
      let broken (y : State) (kind : Option FrameKind) (subkind : Option Nat) : State :=
        ({ y with bus := { y.bus with line := .stuck, stuckTicks := 0 } } : State).raise (.busStuck kind subkind)
      (s.bus.line = .arbitrating → ∀ y, Machine.exec .arbitrationLost s = .next y →
        Machine.exec .busStuck s = .next (broken y none none)) ∧
      (s.bus.line = .sending → (∀ y, Machine.exec (.attemptEnd false false) s = .next y →
        Machine.exec .busStuck s = .next (broken y (some fl.kind) fl.frame.subkind)) ∧
        (fl.kind ≠ .claim → fl.purged = none → s.bus.outbound.followUp fl.kind = none →
          ∀ h, (s.bus.outbound.frames fl.kind).head? = some h →
          let limit : Nat := match fl.kind with
            | .beat => 1
            | .report => 2
            | .announce | .claim => 3
            | .verdict | .holdState | .control | .entry => 8
          let last : Prop := limit ≤ h.attempts + 1
          let told : Prop := last ∧ (fl.frame.kind = .verdict ∨ fl.frame.kind = .holdState ∨ fl.frame.kind = .control ∨
            fl.frame.kind = .entry)
          ∃ t, Machine.exec .busStuck s = .next t ∧ t.bus.line = .stuck ∧ t.bus.stuckTicks = 0 ∧ t.bus.inFlight = none ∧
            t.clock = s.clock ∧ t.cars = s.cars ∧ t.race = s.race ∧
            (¬last → t.bus.outbound.frames fl.kind =
              ⟨h.frame, h.attempts + 1⟩ :: (s.bus.outbound.frames fl.kind).drop 1) ∧
            (last → t.bus.outbound.frames fl.kind = (s.bus.outbound.frames fl.kind).drop 1) ∧
            (t.bus.droppedReports = if last ∧ fl.frame.kind = .report then min (s.bus.droppedReports + 1) 65535
              else s.bus.droppedReports) ∧
            t.notices = (s.raiseAll ((if told then [.txFailed fl.frame.kind fl.frame.subkind fl.frame.raceNumber
              (h.attempts + 1) .unheard] else []) ++ [.busStuck (some fl.kind) fl.frame.subkind])).notices))) ∧
    (∀ fault : FrameFault,
      let bad : Bool := match fault with
        | .stopBitDominant | .startBitMissing => true
        | .characters cs => (receivedFrame cs).isNone
      (s.bus.line = .idle ∨ s.bus.line = .receiving → bad = true → Machine.exec (.badFrame fault) s =
        .next { s with bus := { s.bus with
          line := .busy, acknowledged := false, objected := false
          receiveErrors := min (s.bus.receiveErrors + 1) 255 } }) ∧
      ((s.bus.line ≠ .idle ∧ s.bus.line ≠ .receiving) ∨ bad = false → Machine.exec (.badFrame fault) s = .next s))

/-- The lights count lies within 0 to N. Light k of N comes on at G less (N − k + 1) intervals, where the interval is
above 0 (under an interval of 0, which R96 would divide by, the count is free, logs 2 and 62). In COUNTDOWN with a G
the count is brought up to date, with LIGHTS when it changes. At G the race is RACING: the count is N, every GRIDDED
car is RACING from its last report's place by the start line, PHASE is raised, the order is re-evaluated, and GO is
raised last; LIGHTS stands before PHASE by the model's choice (log 21). Before G and in any other phase nothing
happens (log 10). -/
def Obligations.LightsAndGreenRunByTheClock : Prop :=
  (∀ (o : Options) (g now : Nat), lightsAt o g now ≤ o.lightsCount) ∧
  (∀ (o : Options) (g now k : Nat), 0 < o.lightInterval → 1 ≤ k → k ≤ o.lightsCount →
    (k ≤ lightsAt o g now ↔ g ≤ now + (o.lightsCount + 1 - k) * o.lightInterval)) ∧
  (∀ s : State,
    (s.race.phase ≠ .countdown ∨ s.race.green = none →
      Machine.exec .lights s = .next s ∧ Machine.exec .green s = .next s) ∧
    (∀ g, s.race.green = some g → s.race.phase = .countdown →
      let n := lightsAt s.race.options g s.clock.time
      let all := s.race.options.lightsCount
      let lit : NoticeQueue := if s.race.lights = all then s.notices
        else s.notices.accept ⟨s.clock.time, .lights all (some g)⟩
      (s.race.lights = n → Machine.exec .lights s = .next s) ∧
      (s.race.lights ≠ n → Machine.exec .lights s = .next { s with
        race := { s.race with lights := n }, notices := s.notices.accept ⟨s.clock.time, .lights n (some g)⟩ }) ∧
      (s.clock.time < g → Machine.exec .green s = .next s) ∧
      (g ≤ s.clock.time → Machine.exec .green s = .next (({ s with
        race := { s.race with phase := .racing, lights := all, enterPending := false, holdAsked := false }
        cars := s.cars.map fun (c : CarRecord) =>
          if c.state = .gridded then
            match s.track, c.report with
            | some track, some x =>
              let p : Int := if 2 * x.d ≤ track.L then (x.d : Int) else (x.d : Int) - track.L
              { c with state := .racing, p := some p, pmax := some p }
            | _, _ => { c with state := .racing }
          else c
        notices := lit.accept ⟨s.clock.time, .phase .racing .countdown s.race.raceNumber none⟩ } : State).reevaluate.raise
          (.go (some g))))))

/-- On the acting referee in RACING and FINISHING the head of the pending list is judged once its tf is a settle
window old: it gets the lowest position from 1 that no car holds, up to one past the verdict count, its tf becomes
official, a tf shared with a judged car is a DEAD HEAT of both, one older than a judged tf is LATE JUDGED, VERDICT
is deposited and the VERDICT notice raised, with the time from green (said where G is held and no later than the
tf, logs 2, 55) and its marks, then ORDER where it changes, and the first verdict, which is one issued in RACING
(the model's choice, log 48), starts FINISHING, with PHASE, and the grace window. Where no other entrant that is
not BENCHED has a car neither RETIRED nor FINISHED with an official position, the race ends in RESULTS at once:
the results list has one entry for each entrant with a record, in the order of R114, each with its car's status
(R115), slot, best lap and laps, and for one FINISHED with a position its position, marks and elapsed time (IDLE
as NOT CLASSIFIED and the ties of BENCHED entries: the model's choice, log 49); CONTROL RESULTS carries it, but
for one without an entry (the model's choice, log 41), and PHASE, ORDER where the list changes a car (in this
place, the model's choice, log 38) and RESULTS with the own position and status are raised. Nothing is judged
before that (log 10), elsewhere (a finish still pending when the race ends stays on the list unjudged, the model's
choice, log 43), or with an empty list. At the grace deadline every pending finish is judged and the race ends in
RESULTS. The list, its deposit and its notice are as before. -/
def Obligations.FinishesAreJudgedAfterTheSettleWindow : Prop :=
  ∀ s : State,
    let on : Prop := s.race.phase = .racing ∨ s.race.phase = .finishing
    let due (e : PendingFinish) : Prop := e.tf + s.race.options.settleWindow ≤ s.clock.time
    let held (q : Nat) : Bool := s.cars.any fun c => c.position == some q
    let running (x : State) (e : Entry) : Bool := decide (e.state ≠ .benched) && (x.car? e.station).any fun c =>
      decide (c.state ≠ .retired) && !(decide (c.state = .finished) && c.position.isSome)
    let times : List Nat := s.cars.filterMap fun c => if c.position.isSome then c.officialTf else none
    let listed (list : List ResultEntry) : NoticeBody :=
      let own := s.ownStation.bind fun k => list.find? fun x => x.station == k
      .results (s.race.raceNumber.getD 0) list.length (own.bind ResultEntry.position) (own.map ResultEntry.status)
    (s.clock.role ≠ .acting ∨ ¬on ∨ s.finish.waiting = [] → Machine.exec .settleDue s = .next s) ∧
    (∀ e, s.finish.waiting.head? = some e → s.clock.role = .acting → on →
      let rest := s.finish.waiting.filter fun x => x.station ≠ e.station
      (¬due e → Machine.exec .settleDue s = .next s) ∧
      (due e → ∀ p, 1 ≤ p → p ≤ s.finish.verdictCount + 1 → (p ≤ s.finish.verdictCount → held p = false) →
        ((List.range p).all fun q => q = 0 || held q) = true →
        let marks : Marks := ⟨times.contains e.tf, times.any fun t => e.tf < t, e.unconfirmed⟩
        let others : Bool := s.race.entries.any fun x => x.station ≠ e.station && running s x
        let issued : List CarRecord := s.cars.map fun (c : CarRecord) =>
          if c.station = e.station then
            { c with position := some p, officialTf := some e.tf, marks := marks, state := .finished }
          else if c.position.isSome = true ∧ c.officialTf = some e.tf then
            { c with marks := { c.marks with deadHeat := true } }
          else c
        let told (g : Nat) : State :=
          let verdict : NoticeBody := .verdict e.station ((s.car? e.station).bind CarRecord.slot) p (min (e.tf - g) 4294967295) marks
          ((({ s with cars := issued } : State).raise verdict).reevaluate).raiseAll
            (if s.race.phase = .racing then [.phase .finishing .racing s.race.raceNumber none] else [])
        (others = false → ∃ t list, Machine.exec .settleDue s = .next t ∧ t.race.phase = .results ∧ t.race.graceDeadline = none ∧
          t.finish.verdictCount = max s.finish.verdictCount p ∧
          t.finish.results = some ⟨s.race.raceNumber.getD 0, list⟩ ∧
          ResultsShow s.race.green issued s.race.entries list ∧
          (list ≠ [] → t.bus.outbound.control.getLast? = some ⟨.results (s.race.raceNumber.getD 0) list, 0⟩) ∧
          (∀ g, s.race.green = some g → g ≤ e.tf → s.bus.outbound.verdict.length < 8 → s.bus.outbound.control.length < 4 →
            let ended : State := ({ told g with cars := t.cars, race := t.race } : State).raise
              (.phase .results .finishing s.race.raceNumber none)
            t.notices = ((if t.cars = issued then ended else ended.reevaluate).raise (listed list)).notices) ∧
          t.bus.outbound.verdict.getLast? = some ⟨.verdict ⟨s.race.raceNumber.getD 0, e.station, p, e.tf, marks⟩, 0⟩ ∧
          (s.car? e.station).isSome = (t.car? e.station).any (fun c => c.position == some p && c.officialTf == some e.tf)) ∧
        (others = true → rest.head?.all (fun x => s.clock.time < x.tf + s.race.options.settleWindow) = true → ∃ t, Machine.exec .settleDue s = .next t ∧
          t.cars = issued ∧
          (∀ g, s.race.green = some g → g ≤ e.tf → s.bus.outbound.verdict.length < 8 → t.notices = (told g).notices) ∧
          t.finish = { s.finish with verdictCount := max s.finish.verdictCount p, waiting := rest } ∧
          t.bus.outbound.verdict.getLast? = some ⟨.verdict ⟨s.race.raceNumber.getD 0, e.station, p, e.tf, marks⟩, 0⟩ ∧
          t.race.phase = .finishing ∧ t.race.entries = s.race.entries ∧ t.race.green = s.race.green ∧
          (s.race.phase = .racing → t.race.graceDeadline = some (s.clock.time + s.race.options.graceWindow)) ∧
          (s.race.phase = .finishing → t.race = s.race) ∧ t.clock = s.clock ∧ t.dir = s.dir ∧ t.kept = s.kept))) ∧
    (s.clock.role ≠ .acting ∨ ¬on ∨ s.race.graceDeadline.all (fun d => s.clock.time < d) = true →
      Machine.exec .graceDeadline s = .next s) ∧
    (∀ d, s.race.graceDeadline = some d → s.clock.role = .acting → on → d ≤ s.clock.time →
      ∃ t list, Machine.exec .graceDeadline s = .next t ∧ t.race.phase = .results ∧ t.race.graceDeadline = none ∧
        t.finish.waiting = [] ∧ t.finish.results = some ⟨s.race.raceNumber.getD 0, list⟩ ∧
        ResultsShow s.race.green t.cars s.race.entries list ∧
        (list ≠ [] → t.bus.outbound.control.getLast? = some ⟨.results (s.race.raceNumber.getD 0) list, 0⟩) ∧
        (t.notices.list.length < 32 → t.notices.list.getLast? = some ⟨s.clock.time, listed list⟩) ∧
        (s.finish.waiting = [] → ResultsShow s.race.green s.cars s.race.entries list ∧
          (s.bus.outbound.control.length < 4 →
            let ended : State := ({ s with cars := t.cars, race := t.race } : State).raise
              (.phase .results s.race.phase s.race.raceNumber none)
            t.notices = ((if t.cars = s.cars then ended else ended.reevaluate).raise (listed list)).notices)) ∧
        t.race.entries = s.race.entries ∧ t.clock = s.clock ∧ t.dir = s.dir ∧ t.kept = s.kept ∧
        (∀ e, e ∈ s.finish.waiting → (s.car? e.station).isSome = true →
          (t.car? e.station).any (fun c => c.position.isSome) = true))

/-- Taking a number. The listen deadline makes a pinned station NUMBERED with its pin, and any other CLAIMING; a CLAIM
that is heard, or unheard a third time, makes the station NUMBERED with the wanted number; one objected to marks the
number taken and chooses again, as the claim retry deadline does with no number marked. A choice wants the lowest
number from 0 to 7 that no entry holds and no mark takes, and deposits a CLAIM for it; with none free it sets the
claim retry deadline 200 working beat periods on, and the unsent CLAIM is withdrawn (the model's choice, log 23).
NUMBERED brings the own entry (last heard now, its unit the working beat period: the model's choice, log 51), LOBBY
with every record as new but for its last report, an ANNOUNCE, and STATION last. (Here no other station's entry is old
enough to be removed.) Before its deadline neither event does anything (log 10). That an attempt which ends while the
line is ARBITRATING counts as one that won is the model's choice too (log 11). -/
def Obligations.NumbersAreTakenByPinOrClaim : Prop :=
  ∀ s : State,
    let working := if s.clock.role = .acting then s.clock.beatPeriod else s.clock.followed.getD s.clock.beatPeriod
    let info : StationInfo := ⟨s.dir.serial, s.dir.pin.isSome, s.clock.eligible, s.dir.label⟩
    let fresh (k : Nat) : Prop := s.dir.entries.all (fun e =>
        e.number == k || decide (s.clock.time < e.lastHeard + 200 * e.unit)) = true ∧ s.clock.role ≠ .waiting
    let numbered (k : Nat) (cause : StationCause) (t : State) : Prop :=
      t.dir.numbering = .numbered ∧ t.dir.number = some k ∧ t.dir.listenDeadline = none ∧ t.dir.wanted = none ∧
        t.dir.taken = 0#8 ∧ t.dir.claimRetry = none ∧
        t.dir.entries = insertEntry ⟨k, some info, true, s.clock.time, working⟩ s.dir.entries ∧
        t.race.phase = .lobby ∧ t.cars = (if (s.car? k).isSome then s.cars
          else insertCar (s.freshRecord k) s.cars).map CarRecord.renewed ∧
        t.clock = s.clock ∧ t.kept = s.kept ∧
        (s.flying .announce = false → t.bus.outbound.announce.held = some ⟨.announce info, 0⟩) ∧
        (s.notices.list.length ≤ 28 → t.notices.list.getLast? =
          some ⟨s.clock.time, .station .numbered k (some cause) .numbered⟩)
    let chooses (taken : StationSet) (free : Bool) (t : State) : Prop :=
      t.dir.numbering = .claiming ∧ t.dir.taken = taken ∧ t.dir.entries = s.dir.entries ∧ t.cars = s.cars ∧
        t.race = s.race ∧ t.clock = s.clock ∧ t.notices = s.notices ∧ t.kept = s.kept ∧ t.dir.number = s.dir.number ∧
        t.dir.wanted = (List.range 8).find? (fun n => (s.dir.entry? n).isNone && !taken.getLsbD n) ∧
        (∀ n, t.dir.wanted = some n → t.dir.claimRetry = none ∧
          (free = true → t.bus.outbound.claim.held = some ⟨.claim s.dir.serial n, 0⟩)) ∧
        (t.dir.wanted = none → t.dir.claimRetry = some (s.clock.time + 200 * working) ∧
          (free = true → t.bus.outbound.claim = ⟨none, none⟩))
    (s.dir.numbering ≠ .listening ∨ s.dir.listenDeadline.all (fun d => s.clock.time < d) = true →
      Machine.exec .listenDeadline s = .next s) ∧
    (∀ d, s.dir.listenDeadline = some d → s.dir.numbering = .listening → d ≤ s.clock.time →
      (∀ k, s.dir.pin = some k → fresh k → ∃ t, Machine.exec .listenDeadline s = .next t ∧ numbered k .pinned t) ∧
      (s.dir.pin = none → ∃ t, Machine.exec .listenDeadline s = .next t ∧ chooses s.dir.taken (!s.flying .claim) t ∧
        t.dir.listenDeadline = none)) ∧
    (s.dir.numbering ≠ .claiming ∨ s.dir.claimRetry.all (fun d => s.clock.time < d) = true →
      Machine.exec .claimRetry s = .next s) ∧
    (∀ d, s.dir.claimRetry = some d → s.dir.numbering = .claiming → d ≤ s.clock.time →
      ∃ t, Machine.exec .claimRetry s = .next t ∧ chooses 0#8 (!s.flying .claim) t) ∧
    (∀ fl, s.bus.inFlight = some fl → fl.kind = .claim → fl.purged = none → s.bus.leaving = .no →
      s.bus.line = .sending ∨ s.bus.line = .arbitrating → s.dir.numbering = .claiming →
      ∀ k, s.dir.wanted = some k →
        (∀ acknowledged, ∃ t, Machine.exec (.attemptEnd acknowledged true) s = .next t ∧
          chooses (s.dir.taken ||| (if k < 8 then 1#8 <<< k else 0#8)) true t) ∧
        (fresh k → ∃ t, Machine.exec (.attemptEnd true false) s = .next t ∧ numbered k .claimed t) ∧
        (∀ h, s.bus.outbound.claim.held = some h →
          (fresh k → 2 ≤ h.attempts → ∃ t, Machine.exec (.attemptEnd false false) s = .next t ∧ numbered k .alone t) ∧
          (h.attempts < 2 → s.bus.outbound.claim.followUp = none →
            Machine.exec (.attemptEnd false false) s = .next { s with bus := { s.bus with
              line := .busy, inFlight := none
              outbound := { s.bus.outbound with claim := ⟨some ⟨h.frame, h.attempts + 1⟩, none⟩ } } })))

/-- Time and its limits. A tick advances race time, or runs a hold-off down, and counts the watchdog, the beat timer,
the stall timer and the ticks spent stuck. A watchdog run out restarts off NUMBERED and on a station that is not
eligible; on a follower it searches: the lowest-numbered of its own entry and the LIVE, eligible entries but the
referee's is waited for, and where it is this station's own, it acts. An acting station whose beat timer has run out
restarts it and deposits a BEAT, with a re-evaluation in RACING and FINISHING under COAST. Another station's entry
turns QUIET 8 liveness units after it was last heard, and in LOBBY goes, with its record, after 200 (ORDER, where it
changes, before STATION REMOVED: the model's choice, log 22). A tick meets no limit itself (log 8), and a limit's
event before the limit changes nothing (log 10). A station that starts to act takes up the race by the phase it
holds, deposits ENTRIES in a race phase, and raises REFEREE last: ENTRY gets an entry window from now; in GRID every
entrant not BENCHED holds from now, and COUNTDOWN returns to that, G removed, with PHASE, LIGHTS and ORDER where they
change (in that order, the model's choice, log 21); RACING and FINISHING list the provisional finishes, and FINISHING
gets a grace window; RESULTS without a list builds it, one entry for each entrant with a record, in the order of
R114, each with its car's status (R115) and figures (IDLE as NOT CLASSIFIED and the ties of BENCHED entries: the
model's choice, log 49; no elapsed time is stated without a G, log 2, or for a tf before it, log 55), and raises
ORDER where the list changes a car, RESULTS and then REFEREE. A watchdog that runs out on a station that WAITS marks
the candidate QUIET, where it was LIVE and is not this station itself, and searches again; so does the removal of the
candidate in LOBBY, after its REMOVED (the model's choice, log 59). A removal while CLAIMING empties the marks and
chooses afresh. -/
def Obligations.TimersAndLimitsRunOut : Prop :=
  (∀ s : State,
      let full := min (s.clock.timeout * s.clock.working) 65536
      let restarted : State := { s with clock := { s.clock with watchdog := some full } }
      (Machine.exec .timeBaseTick s = .next { s with
        clock := { s.clock with
          ticks := s.clock.ticks + 1
          time := if s.clock.holdOff = 0 then s.clock.time + 1 else s.clock.time
          holdOff := s.clock.holdOff - 1
          watchdog := s.clock.watchdog.map fun n => n - 1
          beatTimer := s.clock.beatTimer.map fun n => n - 1 }
        link := if s.link.receiver = .hunt then s.link else { s.link with stall := min (s.link.stall + 1) 50 }
        bus := if s.bus.line = .stuck then { s.bus with stuckTicks := min (s.bus.stuckTicks + 1) 4294967295 }
          else s.bus }) ∧
      (s.clock.watchdog ≠ some 0 ∨ s.dir.numbering = .detached ∨
        (s.dir.numbering = .numbered ∧ s.clock.role = .acting) → Machine.exec .watchdogExpiry s = .next s) ∧
      (s.clock.watchdog = some 0 → s.dir.numbering = .listening ∨ s.dir.numbering = .claiming ∨
        s.dir.numbering = .conflict ∨ (s.dir.numbering = .numbered ∧ s.clock.role = .ineligible) →
        Machine.exec .watchdogExpiry s = .next restarted) ∧
      (∀ own, s.dir.number = some own → s.clock.watchdog = some 0 → s.dir.numbering = .numbered →
        s.clock.role = .follower →
        let found : List Nat := (s.dir.entries.filter fun e =>
          e.live && e.info.all (fun a => a.eligible) && decide (s.clock.referee ≠ some e.number)).map DirEntry.number
        let lowest := found.foldl min own
        (lowest ≠ own → Machine.exec .watchdogExpiry s =
          .next { s with clock := { s.clock with role := .waiting, candidate := some lowest, watchdog := some full } }) ∧
        (lowest = own → ∃ t, Machine.exec .watchdogExpiry s = .next t ∧ t.clock = { s.clock with
            role := .acting, referee := some own, candidate := none, followed := none, watchdog := none
            beatTimer := some s.clock.beatPeriod } ∧
          (s.flying .beat = false → t.bus.outbound.beat.held = some ⟨.beat none, 0⟩) ∧ t.dir = s.dir ∧ t.kept = s.kept ∧
          (s.race.phase = .lobby → t.race = { s.race with
              holdTable := [], holdSet := 0#8, entryDeadline := none, graceDeadline := none } ∧
            t.cars = s.cars ∧ t.notices = s.notices.accept ⟨s.clock.time, .referee .acting (some own) .succession⟩))) ∧
      (s.clock.role ≠ .acting ∨ s.clock.beatTimer ≠ some 0 → Machine.exec .beatTimer s = .next s) ∧
      (s.clock.role = .acting → s.clock.beatTimer = some 0 → ∃ t, Machine.exec .beatTimer s = .next t ∧
        t.clock = { s.clock with beatTimer := some s.clock.beatPeriod } ∧ t.race = s.race ∧ t.cars = s.cars ∧
        (s.flying .beat = false → t.bus.outbound.beat.held = some ⟨.beat none, 0⟩) ∧
        (if (s.race.phase = .racing ∨ s.race.phase = .finishing) ∧ s.race.options.policy = .coast
          then t.order = s.reevaluate.order ∧ t.notices = s.reevaluate.notices
          else t.order = s.order ∧ t.notices = s.notices)) ∧
      (∀ (st : Nat) (e : DirEntry), s.dir.entry? st = some e →
        let own : Prop := s.dir.numbering = .numbered ∧ s.dir.number = some e.number
        let gone : State := { s with
          dir := { s.dir with entries := s.dir.entries.filter fun x => x.number ≠ st }
          cars := s.cars.filter fun x => x.station ≠ st
          finish := { s.finish with waiting := s.finish.waiting.filter fun x => x.station ≠ st } }
        (own ∨ s.clock.time < e.lastHeard + 8 * e.unit ∨ e.live = false →
          Machine.exec (.stationQuiet st) s = .next s) ∧
        (¬own → e.lastHeard + 8 * e.unit ≤ s.clock.time → e.live = true → Machine.exec (.stationQuiet st) s =
          .next (({ s with dir := { s.dir with entries := insertEntry { e with live := false } s.dir.entries } }
            : State).raise (.station .quiet st none s.dir.numbering))) ∧
        (own ∨ s.clock.time < e.lastHeard + 200 * e.unit ∨ (s.race.phase ≠ .lobby ∧ s.race.phase ≠ .claiming) →
          Machine.exec (.stationRemoved st) s = .next s) ∧
        (¬own → e.lastHeard + 200 * e.unit ≤ s.clock.time → s.race.phase = .lobby → s.dir.numbering = .numbered →
          s.clock.role ≠ .waiting → (s.car? st).isSome = true →
          Machine.exec (.stationRemoved st) s =
            .next (gone.reevaluate.raise (.station .removed st none .numbered))))) ∧
  (∀ (s : State) (own : Nat), s.dir.number = some own → s.dir.numbering = .numbered → s.clock.role = .follower →
      s.clock.watchdog = some 0 →
      s.dir.entries.all (fun e => decide (own ≤ e.number) || !e.live || e.info.any (fun a => !a.eligible) ||
        s.clock.referee == some e.number) = true →
      let now := s.clock.time
      let r := s.race
      let rows : List HoldRow := r.entries.map fun e => ⟨e.station, if e.state = .benched then none else some now, 0⟩
      let held (h : List HoldRow) (x : RaceControl) : RaceControl := { x with holdTable := h, holdSet := holdSetOf h }
      let referee : NoticeBody := .referee .acting (some own) .succession
      let listed (t : State) : Prop := s.bus.outbound.control.length < 4 → t.bus.outbound.control.getLast? =
        some ⟨.entries ⟨r.raceNumber.getD 0, t.race.phase, r.lastRefusal, r.entries⟩, 0⟩
      let told (t : State) (bs : List NoticeBody) : Prop := s.bus.outbound.control.length < 4 →
        t.notices = (s.raiseAll bs).notices
      let running (x : State) (e : Entry) : Bool := decide (e.state ≠ .benched) && (x.car? e.station).any fun c =>
        decide (c.state ≠ .retired) && !(decide (c.state = .finished) && c.position.isSome)
      let key (x : PendingFinish) : List Int := (x.tf : Int) :: (match x.slot with
        | some k => [0, (k : Int)]
        | none => [1, 0]) ++ [(x.station : Int)]
      ∃ t, Machine.exec .watchdogExpiry s = .next t ∧ t.clock.role = .acting ∧ t.dir = s.dir ∧ t.kept = s.kept ∧
        (r.phase = .entry → t.race = { held [] r with entryDeadline := some (now + r.options.entryWindow) } ∧
          t.cars = s.cars ∧ t.finish = { s.finish with waiting := [] } ∧ listed t ∧ told t [referee]) ∧
        (r.phase = .grid → t.race = { held rows r with green := none, remainder := none } ∧
          t.cars = s.cars ∧ t.finish = { s.finish with waiting := [] } ∧ listed t ∧ told t [referee]) ∧
        (r.phase = .countdown → t.race = { held rows r with
            phase := .grid, green := none, remainder := none, lights := 0, enterPending := false } ∧
          t.cars = s.cars ∧ t.finish = { s.finish with waiting := [] } ∧ listed t ∧
          (s.bus.outbound.control.length < 4 → t.notices = ((({ s with race := t.race } : State).raiseAll
            (.phase .grid .countdown r.raceNumber none :: if r.lights = 0 then [] else [.lights 0 none])).reevaluate.raise
              referee).notices)) ∧
        (r.phase = .racing ∨ r.phase = .finishing →
          s.cars.all (fun c => c.provisionalTf.all fun tf => decide (now < tf + r.options.settleWindow)) = true →
          r.entries.any (running s) = true →
          t.race = { held [] r with graceDeadline := if r.phase = .racing then none else some (now + r.options.graceWindow) } ∧
          t.cars = s.cars ∧ t.finish = { s.finish with waiting := t.finish.waiting } ∧
          t.finish.waiting.Perm (s.cars.filterMap fun c =>
            if c.state = .finished ∧ c.position = none then
              c.provisionalTf.map fun tf => ⟨c.station, tf, c.slot, c.marks.unconfirmed⟩
            else none) ∧
          t.finish.waiting.Pairwise (fun x y => keyLt (key y) (key x) = false) ∧ listed t ∧
          (r.options.policy ≠ .coast → told t [referee])) ∧
        (r.phase = .results → t.race.phase = .results ∧ t.race.entries = r.entries ∧ t.race.raceNumber = r.raceNumber ∧
          (s.finish.results.isSome = true → t.finish = s.finish ∧ t.cars = s.cars ∧ listed t ∧ told t [referee]) ∧
          (s.finish.results = none → ∃ l, t.finish.results = some l ∧ l.raceNumber = r.raceNumber.getD 0 ∧
            (l.entries.map ResultEntry.station).Perm
              ((r.entries.map Entry.station).filter fun st => (s.car? st).isSome) ∧
            ResultsShow r.green s.cars r.entries l.entries ∧
            (s.bus.outbound.control.length < 3 →
              let row := l.entries.find? fun x => x.station == own
              let built : State := { s with cars := t.cars }
              t.notices = ((if t.cars = s.cars then s else built.reevaluate).raiseAll
                [.results l.raceNumber l.entries.length (row.bind ResultEntry.position) (row.map ResultEntry.status),
                  referee]).notices) ∧
            (s.bus.outbound.control.length < 4 → l.entries ≠ [] →
              t.bus.outbound.control.getLast? = some ⟨.results l.raceNumber l.entries, 0⟩)))) ∧
  (∀ s : State,
      let now := s.clock.time
      let working : Nat := if s.clock.role = .acting then s.clock.beatPeriod else s.clock.followed.getD s.clock.beatPeriod
      (∀ own k, s.dir.number = some own → s.clock.candidate = some k → s.dir.numbering = .numbered →
        s.clock.role = .waiting → s.clock.watchdog = some 0 →
        let quiet : State := match s.dir.entry? k with
          | some e => if e.live = true ∧ k ≠ own then
              ({ s with dir := { s.dir with entries := insertEntry { e with live := false } s.dir.entries } } : State).raise
                (.station .quiet k none .numbered)
            else s
          | none => s
        Machine.exec .watchdogExpiry s = Machine.exec .watchdogExpiry { quiet with
          clock := { s.clock with role := .follower } }) ∧
      (∀ st e, s.dir.entry? st = some e → (s.dir.numbering = .numbered → s.dir.number ≠ some st) →
        e.lastHeard + 200 * e.unit ≤ now → s.race.phase = .lobby ∨ s.race.phase = .claiming →
        let gone : State := { s with dir := { s.dir with entries := s.dir.entries.filter fun x => x.number ≠ st } }
        let left : State := if (s.car? st).isSome then ({ gone with
            cars := s.cars.filter fun x => x.station ≠ st
            finish := { s.finish with waiting := s.finish.waiting.filter fun x => x.station ≠ st } } : State).reevaluate
          else gone
        let told : State := left.raise (.station .removed st none s.dir.numbering)
        (s.dir.numbering ≠ .claiming → s.clock.role ≠ .waiting ∨ s.clock.candidate ≠ some st →
          s.clock.candidate.all (fun k => (s.dir.entry? k).isSome) = true →
          Machine.exec (.stationRemoved st) s = .next told) ∧
        (s.clock.role = .waiting → s.clock.candidate = some st → s.dir.numbering = .numbered → s.dir.number.isSome = true →
          Machine.exec (.stationRemoved st) s = Machine.exec .watchdogExpiry { told with
            clock := { s.clock with role := .follower, watchdog := some 0 } }) ∧
        (s.dir.numbering = .claiming → s.clock.role ≠ .waiting →
          let wanted : Option Nat := (List.range 8).find? fun n => n == st || (s.dir.entry? n).isNone
          ∃ t, Machine.exec (.stationRemoved st) s = .next t ∧ t.notices = told.notices ∧ t.cars = told.cars ∧
            t.order = told.order ∧ t.race = s.race ∧ t.clock = s.clock ∧ t.finish = told.finish ∧
            t.dir = { told.dir with
              taken := 0#8, wanted := wanted
              claimRetry := if wanted.isSome then none else some (now + 200 * working) } ∧
            (s.flying .claim = false → t.bus.outbound.claim = match wanted with
              | some n => ⟨some ⟨.claim s.dir.serial n, 0⟩, s.bus.outbound.claim.followUp⟩
              | none => ⟨none, none⟩))))
end

