-- ==== Sys2Proof/Laws/State.lean ====
section
/-! SUPPORT. One lemma per field for each update of State: the field written reads back, and every other field is as it
was. -/

namespace Sys2Proof.Machine

variable (s : State)

/-! ## State.withTrack -/

@[simp] theorem State.withTrack_track (x : Option Track) : (s.withTrack x).track = x := rfl
@[simp] theorem State.withTrack_cars (x : Option Track) : (s.withTrack x).cars = s.cars := rfl
@[simp] theorem State.withTrack_order (x : Option Track) : (s.withTrack x).order = s.order := rfl
@[simp] theorem State.withTrack_race (x : Option Track) : (s.withTrack x).race = s.race := rfl
@[simp] theorem State.withTrack_finish (x : Option Track) : (s.withTrack x).finish = s.finish := rfl
@[simp] theorem State.withTrack_clock (x : Option Track) : (s.withTrack x).clock = s.clock := rfl
@[simp] theorem State.withTrack_dir (x : Option Track) : (s.withTrack x).dir = s.dir := rfl
@[simp] theorem State.withTrack_bus (x : Option Track) : (s.withTrack x).bus = s.bus := rfl
@[simp] theorem State.withTrack_notices (x : Option Track) : (s.withTrack x).notices = s.notices := rfl
@[simp] theorem State.withTrack_link (x : Option Track) : (s.withTrack x).link = s.link := rfl
@[simp] theorem State.withTrack_straps (x : Option Track) : (s.withTrack x).straps = s.straps := rfl
@[simp] theorem State.withTrack_pending (x : Option Track) : (s.withTrack x).pending = s.pending := rfl

/-! ## State.withCars -/

@[simp] theorem State.withCars_track (x : List CarRecord) : (s.withCars x).track = s.track := rfl
@[simp] theorem State.withCars_cars (x : List CarRecord) : (s.withCars x).cars = x := rfl
@[simp] theorem State.withCars_order (x : List CarRecord) : (s.withCars x).order = s.order := rfl
@[simp] theorem State.withCars_race (x : List CarRecord) : (s.withCars x).race = s.race := rfl
@[simp] theorem State.withCars_finish (x : List CarRecord) : (s.withCars x).finish = s.finish := rfl
@[simp] theorem State.withCars_clock (x : List CarRecord) : (s.withCars x).clock = s.clock := rfl
@[simp] theorem State.withCars_dir (x : List CarRecord) : (s.withCars x).dir = s.dir := rfl
@[simp] theorem State.withCars_bus (x : List CarRecord) : (s.withCars x).bus = s.bus := rfl
@[simp] theorem State.withCars_notices (x : List CarRecord) : (s.withCars x).notices = s.notices := rfl
@[simp] theorem State.withCars_link (x : List CarRecord) : (s.withCars x).link = s.link := rfl
@[simp] theorem State.withCars_straps (x : List CarRecord) : (s.withCars x).straps = s.straps := rfl
@[simp] theorem State.withCars_pending (x : List CarRecord) : (s.withCars x).pending = s.pending := rfl

/-! ## State.withOrder -/

@[simp] theorem State.withOrder_track (x : OrderUnit) : (s.withOrder x).track = s.track := rfl
@[simp] theorem State.withOrder_cars (x : OrderUnit) : (s.withOrder x).cars = s.cars := rfl
@[simp] theorem State.withOrder_order (x : OrderUnit) : (s.withOrder x).order = x := rfl
@[simp] theorem State.withOrder_race (x : OrderUnit) : (s.withOrder x).race = s.race := rfl
@[simp] theorem State.withOrder_finish (x : OrderUnit) : (s.withOrder x).finish = s.finish := rfl
@[simp] theorem State.withOrder_clock (x : OrderUnit) : (s.withOrder x).clock = s.clock := rfl
@[simp] theorem State.withOrder_dir (x : OrderUnit) : (s.withOrder x).dir = s.dir := rfl
@[simp] theorem State.withOrder_bus (x : OrderUnit) : (s.withOrder x).bus = s.bus := rfl
@[simp] theorem State.withOrder_notices (x : OrderUnit) : (s.withOrder x).notices = s.notices := rfl
@[simp] theorem State.withOrder_link (x : OrderUnit) : (s.withOrder x).link = s.link := rfl
@[simp] theorem State.withOrder_straps (x : OrderUnit) : (s.withOrder x).straps = s.straps := rfl
@[simp] theorem State.withOrder_pending (x : OrderUnit) : (s.withOrder x).pending = s.pending := rfl

/-! ## State.withRace -/

@[simp] theorem State.withRace_track (x : RaceControl) : (s.withRace x).track = s.track := rfl
@[simp] theorem State.withRace_cars (x : RaceControl) : (s.withRace x).cars = s.cars := rfl
@[simp] theorem State.withRace_order (x : RaceControl) : (s.withRace x).order = s.order := rfl
@[simp] theorem State.withRace_race (x : RaceControl) : (s.withRace x).race = x := rfl
@[simp] theorem State.withRace_finish (x : RaceControl) : (s.withRace x).finish = s.finish := rfl
@[simp] theorem State.withRace_clock (x : RaceControl) : (s.withRace x).clock = s.clock := rfl
@[simp] theorem State.withRace_dir (x : RaceControl) : (s.withRace x).dir = s.dir := rfl
@[simp] theorem State.withRace_bus (x : RaceControl) : (s.withRace x).bus = s.bus := rfl
@[simp] theorem State.withRace_notices (x : RaceControl) : (s.withRace x).notices = s.notices := rfl
@[simp] theorem State.withRace_link (x : RaceControl) : (s.withRace x).link = s.link := rfl
@[simp] theorem State.withRace_straps (x : RaceControl) : (s.withRace x).straps = s.straps := rfl
@[simp] theorem State.withRace_pending (x : RaceControl) : (s.withRace x).pending = s.pending := rfl

/-! ## State.withFinish -/

@[simp] theorem State.withFinish_track (x : FinishJudge) : (s.withFinish x).track = s.track := rfl
@[simp] theorem State.withFinish_cars (x : FinishJudge) : (s.withFinish x).cars = s.cars := rfl
@[simp] theorem State.withFinish_order (x : FinishJudge) : (s.withFinish x).order = s.order := rfl
@[simp] theorem State.withFinish_race (x : FinishJudge) : (s.withFinish x).race = s.race := rfl
@[simp] theorem State.withFinish_finish (x : FinishJudge) : (s.withFinish x).finish = x := rfl
@[simp] theorem State.withFinish_clock (x : FinishJudge) : (s.withFinish x).clock = s.clock := rfl
@[simp] theorem State.withFinish_dir (x : FinishJudge) : (s.withFinish x).dir = s.dir := rfl
@[simp] theorem State.withFinish_bus (x : FinishJudge) : (s.withFinish x).bus = s.bus := rfl
@[simp] theorem State.withFinish_notices (x : FinishJudge) : (s.withFinish x).notices = s.notices := rfl
@[simp] theorem State.withFinish_link (x : FinishJudge) : (s.withFinish x).link = s.link := rfl
@[simp] theorem State.withFinish_straps (x : FinishJudge) : (s.withFinish x).straps = s.straps := rfl
@[simp] theorem State.withFinish_pending (x : FinishJudge) : (s.withFinish x).pending = s.pending := rfl

/-! ## State.withClock -/

@[simp] theorem State.withClock_track (x : RaceClock) : (s.withClock x).track = s.track := rfl
@[simp] theorem State.withClock_cars (x : RaceClock) : (s.withClock x).cars = s.cars := rfl
@[simp] theorem State.withClock_order (x : RaceClock) : (s.withClock x).order = s.order := rfl
@[simp] theorem State.withClock_race (x : RaceClock) : (s.withClock x).race = s.race := rfl
@[simp] theorem State.withClock_finish (x : RaceClock) : (s.withClock x).finish = s.finish := rfl
@[simp] theorem State.withClock_clock (x : RaceClock) : (s.withClock x).clock = x := rfl
@[simp] theorem State.withClock_dir (x : RaceClock) : (s.withClock x).dir = s.dir := rfl
@[simp] theorem State.withClock_bus (x : RaceClock) : (s.withClock x).bus = s.bus := rfl
@[simp] theorem State.withClock_notices (x : RaceClock) : (s.withClock x).notices = s.notices := rfl
@[simp] theorem State.withClock_link (x : RaceClock) : (s.withClock x).link = s.link := rfl
@[simp] theorem State.withClock_straps (x : RaceClock) : (s.withClock x).straps = s.straps := rfl
@[simp] theorem State.withClock_pending (x : RaceClock) : (s.withClock x).pending = s.pending := rfl

/-! ## State.withDir -/

@[simp] theorem State.withDir_track (x : Directory) : (s.withDir x).track = s.track := rfl
@[simp] theorem State.withDir_cars (x : Directory) : (s.withDir x).cars = s.cars := rfl
@[simp] theorem State.withDir_order (x : Directory) : (s.withDir x).order = s.order := rfl
@[simp] theorem State.withDir_race (x : Directory) : (s.withDir x).race = s.race := rfl
@[simp] theorem State.withDir_finish (x : Directory) : (s.withDir x).finish = s.finish := rfl
@[simp] theorem State.withDir_clock (x : Directory) : (s.withDir x).clock = s.clock := rfl
@[simp] theorem State.withDir_dir (x : Directory) : (s.withDir x).dir = x := rfl
@[simp] theorem State.withDir_bus (x : Directory) : (s.withDir x).bus = s.bus := rfl
@[simp] theorem State.withDir_notices (x : Directory) : (s.withDir x).notices = s.notices := rfl
@[simp] theorem State.withDir_link (x : Directory) : (s.withDir x).link = s.link := rfl
@[simp] theorem State.withDir_straps (x : Directory) : (s.withDir x).straps = s.straps := rfl
@[simp] theorem State.withDir_pending (x : Directory) : (s.withDir x).pending = s.pending := rfl

/-! ## State.withBus -/

@[simp] theorem State.withBus_track (x : BusController) : (s.withBus x).track = s.track := rfl
@[simp] theorem State.withBus_cars (x : BusController) : (s.withBus x).cars = s.cars := rfl
@[simp] theorem State.withBus_order (x : BusController) : (s.withBus x).order = s.order := rfl
@[simp] theorem State.withBus_race (x : BusController) : (s.withBus x).race = s.race := rfl
@[simp] theorem State.withBus_finish (x : BusController) : (s.withBus x).finish = s.finish := rfl
@[simp] theorem State.withBus_clock (x : BusController) : (s.withBus x).clock = s.clock := rfl
@[simp] theorem State.withBus_dir (x : BusController) : (s.withBus x).dir = s.dir := rfl
@[simp] theorem State.withBus_bus (x : BusController) : (s.withBus x).bus = x := rfl
@[simp] theorem State.withBus_notices (x : BusController) : (s.withBus x).notices = s.notices := rfl
@[simp] theorem State.withBus_link (x : BusController) : (s.withBus x).link = s.link := rfl
@[simp] theorem State.withBus_straps (x : BusController) : (s.withBus x).straps = s.straps := rfl
@[simp] theorem State.withBus_pending (x : BusController) : (s.withBus x).pending = s.pending := rfl

/-! ## State.withNotices -/

@[simp] theorem State.withNotices_track (x : NoticeQueue) : (s.withNotices x).track = s.track := rfl
@[simp] theorem State.withNotices_cars (x : NoticeQueue) : (s.withNotices x).cars = s.cars := rfl
@[simp] theorem State.withNotices_order (x : NoticeQueue) : (s.withNotices x).order = s.order := rfl
@[simp] theorem State.withNotices_race (x : NoticeQueue) : (s.withNotices x).race = s.race := rfl
@[simp] theorem State.withNotices_finish (x : NoticeQueue) : (s.withNotices x).finish = s.finish := rfl
@[simp] theorem State.withNotices_clock (x : NoticeQueue) : (s.withNotices x).clock = s.clock := rfl
@[simp] theorem State.withNotices_dir (x : NoticeQueue) : (s.withNotices x).dir = s.dir := rfl
@[simp] theorem State.withNotices_bus (x : NoticeQueue) : (s.withNotices x).bus = s.bus := rfl
@[simp] theorem State.withNotices_notices (x : NoticeQueue) : (s.withNotices x).notices = x := rfl
@[simp] theorem State.withNotices_link (x : NoticeQueue) : (s.withNotices x).link = s.link := rfl
@[simp] theorem State.withNotices_straps (x : NoticeQueue) : (s.withNotices x).straps = s.straps := rfl
@[simp] theorem State.withNotices_pending (x : NoticeQueue) : (s.withNotices x).pending = s.pending := rfl

/-! ## State.withLink -/

@[simp] theorem State.withLink_track (x : CabinetLink) : (s.withLink x).track = s.track := rfl
@[simp] theorem State.withLink_cars (x : CabinetLink) : (s.withLink x).cars = s.cars := rfl
@[simp] theorem State.withLink_order (x : CabinetLink) : (s.withLink x).order = s.order := rfl
@[simp] theorem State.withLink_race (x : CabinetLink) : (s.withLink x).race = s.race := rfl
@[simp] theorem State.withLink_finish (x : CabinetLink) : (s.withLink x).finish = s.finish := rfl
@[simp] theorem State.withLink_clock (x : CabinetLink) : (s.withLink x).clock = s.clock := rfl
@[simp] theorem State.withLink_dir (x : CabinetLink) : (s.withLink x).dir = s.dir := rfl
@[simp] theorem State.withLink_bus (x : CabinetLink) : (s.withLink x).bus = s.bus := rfl
@[simp] theorem State.withLink_notices (x : CabinetLink) : (s.withLink x).notices = s.notices := rfl
@[simp] theorem State.withLink_link (x : CabinetLink) : (s.withLink x).link = x := rfl
@[simp] theorem State.withLink_straps (x : CabinetLink) : (s.withLink x).straps = s.straps := rfl
@[simp] theorem State.withLink_pending (x : CabinetLink) : (s.withLink x).pending = s.pending := rfl

/-! ## State.withPending -/

@[simp] theorem State.withPending_track (x : List Instr) : (s.withPending x).track = s.track := rfl
@[simp] theorem State.withPending_cars (x : List Instr) : (s.withPending x).cars = s.cars := rfl
@[simp] theorem State.withPending_order (x : List Instr) : (s.withPending x).order = s.order := rfl
@[simp] theorem State.withPending_race (x : List Instr) : (s.withPending x).race = s.race := rfl
@[simp] theorem State.withPending_finish (x : List Instr) : (s.withPending x).finish = s.finish := rfl
@[simp] theorem State.withPending_clock (x : List Instr) : (s.withPending x).clock = s.clock := rfl
@[simp] theorem State.withPending_dir (x : List Instr) : (s.withPending x).dir = s.dir := rfl
@[simp] theorem State.withPending_bus (x : List Instr) : (s.withPending x).bus = s.bus := rfl
@[simp] theorem State.withPending_notices (x : List Instr) : (s.withPending x).notices = s.notices := rfl
@[simp] theorem State.withPending_link (x : List Instr) : (s.withPending x).link = s.link := rfl
@[simp] theorem State.withPending_straps (x : List Instr) : (s.withPending x).straps = s.straps := rfl
@[simp] theorem State.withPending_pending (x : List Instr) : (s.withPending x).pending = x := rfl

/-! ## State.raise -/

@[simp] theorem State.raise_track (b : NoticeBody) : (s.raise b).track = s.track := rfl
@[simp] theorem State.raise_cars (b : NoticeBody) : (s.raise b).cars = s.cars := rfl
@[simp] theorem State.raise_order (b : NoticeBody) : (s.raise b).order = s.order := rfl
@[simp] theorem State.raise_race (b : NoticeBody) : (s.raise b).race = s.race := rfl
@[simp] theorem State.raise_finish (b : NoticeBody) : (s.raise b).finish = s.finish := rfl
@[simp] theorem State.raise_clock (b : NoticeBody) : (s.raise b).clock = s.clock := rfl
@[simp] theorem State.raise_dir (b : NoticeBody) : (s.raise b).dir = s.dir := rfl
@[simp] theorem State.raise_bus (b : NoticeBody) : (s.raise b).bus = s.bus := rfl
@[simp] theorem State.raise_notices (b : NoticeBody) :
    (s.raise b).notices = s.notices.accept ⟨s.clock.time, b⟩ := rfl
@[simp] theorem State.raise_link (b : NoticeBody) : (s.raise b).link = s.link := rfl
@[simp] theorem State.raise_straps (b : NoticeBody) : (s.raise b).straps = s.straps := rfl
@[simp] theorem State.raise_pending (b : NoticeBody) : (s.raise b).pending = s.pending := rfl

end Sys2Proof.Machine
end

