-- ==== Sys2Proof/Laws/Kept.lean ====
section
/-! SUPPORT. For every shared operation of the race, the bus and time: it keeps what State.kept names (the track, the
six SETUP fields, the serial, the straps, the link, the count of ticks and the command queue). -/

namespace Sys2Proof.Machine

@[simp] theorem State.withCars_kept (x) (s : State) : (s.withCars x).kept = s.kept := rfl
@[simp] theorem State.withOrder_kept (x) (s : State) : (s.withOrder x).kept = s.kept := rfl
@[simp] theorem State.withRace_kept (x) (s : State) : (s.withRace x).kept = s.kept := rfl
@[simp] theorem State.withFinish_kept (x) (s : State) : (s.withFinish x).kept = s.kept := rfl
@[simp] theorem State.withBus_kept (x) (s : State) : (s.withBus x).kept = s.kept := rfl
@[simp] theorem State.withNotices_kept (x) (s : State) : (s.withNotices x).kept = s.kept := rfl
@[simp] theorem State.withOutbound_kept (x) (s : State) : (s.withOutbound x).kept = s.kept := rfl
@[simp] theorem State.raise_kept (x) (s : State) : (s.raise x).kept = s.kept := rfl

@[simp] theorem State.withDir_kept {x : Directory} {s : State} (h1 : x.pin = s.dir.pin)
    (h2 : x.label = s.dir.label) (h3 : x.serial = s.dir.serial) : (s.withDir x).kept = s.kept := by
  simp [State.kept, h1, h2, h3]

@[simp] theorem State.withClock_kept {x : RaceClock} {s : State} (h1 : x.eligible = s.clock.eligible)
    (h2 : x.beatPeriod = s.clock.beatPeriod) (h3 : x.timeout = s.clock.timeout) (h4 : x.latency = s.clock.latency)
    (h5 : x.ticks = s.clock.ticks) : (s.withClock x).kept = s.kept := by
  simp [State.kept, h1, h2, h3, h4, h5]

@[simp] theorem ite_kept {c : Prop} [Decidable c] (a b : State) :
    (if c then a else b).kept = if c then a.kept else b.kept := apply_ite State.kept c a b

/-- A fold of an operation that keeps it keeps it. -/
@[simp] theorem foldl_kept {α : Type} {f : State → α → State} (h : ∀ s a, (f s a).kept = s.kept) (l : List α) :
    ∀ s : State, (l.foldl f s).kept = s.kept := by
  induction l with
  | nil => intro s; rfl
  | cons a l ih => intro s; rw [List.foldl_cons, ih, h]

@[simp] theorem State.raiseAll_kept (bs : List NoticeBody) (s : State) :
    (State.raiseAll bs s).kept = s.kept := by
  unfold State.raiseAll
  exact foldl_kept (fun s b => State.raise_kept b s) bs s
@[simp] theorem State.restartWatchdog_kept (s : State) :
    (State.restartWatchdog s).kept = s.kept := by
  simp [State.restartWatchdog]
@[simp] theorem State.updateCar_kept (st : Nat) (f : CarRecord → CarRecord) (s : State) :
    (State.updateCar st f s).kept = s.kept := by
  simp [State.updateCar]
@[simp] theorem State.setLights_kept (n : Nat) (s : State) :
    (State.setLights n s).kept = s.kept := by
  simp [State.setLights]
@[simp] theorem State.updateLights_kept (s : State) :
    (State.updateLights s).kept = s.kept := by
  simp [State.updateLights]
@[simp] theorem State.raiseTxFailed_kept (f : Frame) (attempts : Nat) (cause : TxCause) (s : State) :
    (State.raiseTxFailed f attempts cause s).kept = s.kept := by
  simp [State.raiseTxFailed]
@[simp] theorem State.depositFifo_kept (capacity : Nat) (f : Frame) (q : List Held) (s : State) :
    (State.depositFifo capacity f q s).kept = s.kept := by
  unfold State.depositFifo
  (repeat' split) <;> simp <;> (repeat' split) <;> simp
@[simp] theorem State.countSuperseded_kept (n : Nat) (s : State) :
    (State.countSuperseded n s).kept = s.kept := by
  simp [State.countSuperseded]
@[simp] theorem State.deposit_kept (f : Frame) (s : State) :
    (State.deposit f s).kept = s.kept := by
  unfold State.deposit
  split <;> simp
@[simp] theorem State.announce_kept (s : State) :
    (State.announce s).kept = s.kept := by
  simp [State.announce]
@[simp] theorem State.withdrawUnsent_kept (k : FrameKind) (s : State) :
    (State.withdrawUnsent k s).kept = s.kept := by
  simp [State.withdrawUnsent]
@[simp] theorem State.giveUp_kept (f : Frame) (attempts : Nat) (s : State) :
    (State.giveUp f attempts s).kept = s.kept := by
  simp [State.giveUp]
@[simp] theorem State.flightOutcome_kept (fl : Flight) (e : FlightEnd) (attempts : Nat) (followUp : Bool)
    (s : State) :
    (State.flightOutcome fl e attempts followUp s).kept = s.kept := by
  simp [State.flightOutcome]
@[simp] theorem State.endFlight_kept (e : FlightEnd) (s : State) :
    (State.endFlight e s).kept = s.kept := by
  unfold State.endFlight
  (repeat' split) <;> simp
@[simp] theorem State.purgeRace_kept (s : State) :
    (State.purgeRace s).kept = s.kept := by
  simp [State.purgeRace]
@[simp] theorem State.purgeNumber_kept (s : State) :
    (State.purgeNumber s).kept = s.kept := by
  simp [State.purgeNumber]
@[simp] theorem State.purgeDetach_kept (s : State) :
    (State.purgeDetach s).kept = s.kept := by
  simp [State.purgeDetach]
@[simp] theorem State.reevaluate_kept (s : State) :
    (State.reevaluate s).kept = s.kept := by
  simp [State.reevaluate]
@[simp] theorem State.reevaluateAfter_kept (before : List CarRecord) (s : State) :
    (State.reevaluateAfter before s).kept = s.kept := by
  simp [State.reevaluateAfter]
@[simp] theorem State.lapCompleted_kept (c : CarRecord) (lap time : Nat) (s : State) :
    (State.lapCompleted c lap time s).kept = s.kept := by
  simp [State.lapCompleted]
@[simp] theorem State.setPhase_kept (new : Phase) (s : State) :
    (State.setPhase new s).kept = s.kept := by
  simp [State.setPhase]
@[simp] theorem State.changePhase_kept (previous new : Phase) (reason : Option LobbyReason) (s : State) :
    (State.changePhase previous new reason s).kept = s.kept := by
  simp [State.changePhase]
@[simp] theorem State.clearRaceQuietly_kept (s : State) :
    (State.clearRaceQuietly s).kept = s.kept := by
  unfold State.clearRaceQuietly
  rfl
@[simp] theorem State.clearRace_kept (s : State) :
    (State.clearRace s).kept = s.kept := by
  unfold State.clearRace; split <;> simp
@[simp] theorem State.applyGreen_kept (arriving : Phase) (s : State) :
    (State.applyGreen arriving s).kept = s.kept := by
  simp [State.applyGreen]
@[simp] theorem State.undoGreen_kept (s : State) :
    (State.undoGreen s).kept = s.kept := by
  simp [State.undoGreen]
@[simp] theorem State.fillSlots_kept (s : State) :
    (State.fillSlots s).kept = s.kept := by
  simp [State.fillSlots]
@[simp] theorem State.handEntries_kept (s : State) :
    (State.handEntries s).kept = s.kept := by
  simp [State.handEntries]
@[simp] theorem State.settleEnter_kept (s : State) :
    (State.settleEnter s).kept = s.kept := by
  unfold State.settleEnter
  (repeat' split) <;> simp
@[simp] theorem State.depositRaceSetup_kept (s : State) :
    (State.depositRaceSetup s).kept = s.kept := by
  simp [State.depositRaceSetup]
@[simp] theorem State.depositEntries_kept (s : State) :
    (State.depositEntries s).kept = s.kept := by
  simp [State.depositEntries]
@[simp] theorem State.withHoldTable_kept (t : List HoldRow) (s : State) :
    (State.withHoldTable t s).kept = s.kept := by
  simp [State.withHoldTable]
@[simp] theorem State.judge_kept (e : PendingFinish) (s : State) :
    (State.judge e s).kept = s.kept := by
  simp [State.judge]
@[simp] theorem State.unjudge_kept (st : Nat) (s : State) :
    (State.unjudge st s).kept = s.kept := by
  simp [State.unjudge]
@[simp] theorem State.handResults_kept (es : List ResultEntry) (s : State) :
    (State.handResults es s).kept = s.kept := by
  simp [State.handResults]
@[simp] theorem State.raiseResults_kept (r : ResultsList) (s : State) :
    (State.raiseResults r s).kept = s.kept := by
  simp [State.raiseResults]
@[simp] theorem State.depositResults_kept (s : State) :
    (State.depositResults s).kept = s.kept := by
  unfold State.depositResults
  split <;> simp
@[simp] theorem State.publishResults_kept (s : State) :
    (State.publishResults s).kept = s.kept := by
  simp [State.publishResults]
@[simp] theorem State.endRace_kept (s : State) :
    (State.endRace s).kept = s.kept := by
  simp [State.endRace]
@[simp] theorem State.examineEnd_kept (s : State) :
    (State.examineEnd s).kept = s.kept := by
  simp [State.examineEnd]
@[simp] theorem State.raiseVerdict_kept (st position tf : Nat) (marks : Marks) (s : State) :
    (State.raiseVerdict st position tf marks s).kept = s.kept := by
  simp [State.raiseVerdict]
@[simp] theorem State.firstVerdict_kept (s : State) :
    (State.firstVerdict s).kept = s.kept := by
  simp [State.firstVerdict]
@[simp] theorem State.issue_kept (e : PendingFinish) (s : State) :
    (State.issue e s).kept = s.kept := by
  simp [State.issue]
@[simp] theorem State.issueDue_kept (n : Nat) (s : State) :
    (State.issueDue n s).kept = s.kept := by
  induction n generalizing s with
  | zero => rfl
  | succ n ih =>
    unfold State.issueDue
    (repeat' split) <;> simp [ih]
@[simp] theorem State.issueAllDue_kept (s : State) :
    (State.issueAllDue s).kept = s.kept := by
  simp [State.issueAllDue]
@[simp] theorem State.issueEvery_kept (n : Nat) (s : State) :
    (State.issueEvery n s).kept = s.kept := by
  induction n generalizing s with
  | zero => rfl
  | succ n ih =>
    unfold State.issueEvery
    (repeat' split) <;> simp [ih]
@[simp] theorem State.applyRetire_kept (st : Nat) (reason : RetireReason) (s : State) :
    (State.applyRetire st reason s).kept = s.kept := by
  unfold State.applyRetire
  split <;> simp
@[simp] theorem State.refereeRetire_kept (st : Nat) (reason : RetireReason) (s : State) :
    (State.refereeRetire st reason s).kept = s.kept := by
  simp [State.refereeRetire]
@[simp] theorem State.applyVerdict_kept (v : VerdictFields) (s : State) :
    (State.applyVerdict v s).kept = s.kept := by
  unfold State.applyVerdict
  split <;> simp
@[simp] theorem State.raiseCount_kept (n : Nat) (s : State) :
    (State.raiseCount n s).kept = s.kept := by
  simp [State.raiseCount]
@[simp] theorem State.reconcile_kept (e : ResultEntry) (s : State) :
    (State.reconcile e s).kept = s.kept := by
  unfold State.reconcile
  split <;> simp
@[simp] theorem State.takeResults_kept (r : ResultsList) (s : State) :
    (State.takeResults r s).kept = s.kept := by
  simp [State.takeResults]
@[simp] theorem State.dropRefereeState_kept (s : State) :
    (State.dropRefereeState s).kept = s.kept := by
  simp [State.dropRefereeState]
@[simp] theorem State.dropBeat_kept (s : State) :
    (State.dropBeat s).kept = s.kept := by
  simp [State.dropBeat]
@[simp] theorem State.leaveActing_kept (referee : Option Nat) (cause : RefereeCause) (s : State) :
    (State.leaveActing referee cause s).kept = s.kept := by
  simp [State.leaveActing]
@[simp] theorem State.resignActing_kept (cause : RefereeCause) (s : State) :
    (State.resignActing cause s).kept = s.kept := by
  simp [State.resignActing]
@[simp] theorem State.setUpPhase_kept (s : State) :
    (State.setUpPhase s).kept = s.kept := by
  unfold State.setUpPhase
  split <;> simp
@[simp] theorem State.setUpRace_kept (s : State) :
    (State.setUpRace s).kept = s.kept := by
  simp [State.setUpRace]
@[simp] theorem State.setUpFinish_kept (s : State) :
    (State.setUpFinish s).kept = s.kept := by
  unfold State.setUpFinish
  split <;> simp
@[simp] theorem State.queueBeat_kept (s : State) :
    (State.queueBeat s).kept = s.kept := by
  simp [State.queueBeat]
@[simp] theorem State.restartBeatTimer_kept (s : State) :
    (State.restartBeatTimer s).kept = s.kept := by
  simp [State.restartBeatTimer]
@[simp] theorem State.startActing_kept (own : Nat) (s : State) :
    (State.startActing own s).kept = s.kept := by
  simp [State.startActing]
@[simp] theorem State.search_kept (s : State) :
    (State.search s).kept = s.kept := by
  unfold State.search
  split <;> simp
@[simp] theorem State.raiseStation_kept (event : StationEvent) (n : Nat) (cause : Option StationCause) (s : State) :
    (State.raiseStation event n cause s).kept = s.kept := by
  simp [State.raiseStation]
@[simp] theorem State.createRecord_kept (st : Nat) (s : State) :
    (State.createRecord st s).kept = s.kept := by
  simp [State.createRecord]
@[simp] theorem State.removeRecord_kept (st : Nat) (s : State) :
    (State.removeRecord st s).kept = s.kept := by
  simp [State.removeRecord]
@[simp] theorem State.withEntries_kept (es : List DirEntry) (s : State) :
    (State.withEntries es s).kept = s.kept := by
  simp [State.withEntries]
@[simp] theorem State.chooseWanted_kept (s : State) :
    (State.chooseWanted s).kept = s.kept := by
  unfold State.chooseWanted
  split <;> simp
@[simp] theorem State.chooseAfresh_kept (s : State) :
    (State.chooseAfresh s).kept = s.kept := by
  simp [State.chooseAfresh]
@[simp] theorem State.makeQuiet_kept (st : Nat) (s : State) :
    (State.makeQuiet st s).kept = s.kept := by
  unfold State.makeQuiet
  split <;> simp
@[simp] theorem State.removeEntry_kept (st : Nat) (s : State) :
    (State.removeEntry st s).kept = s.kept := by
  simp [State.removeEntry]
@[simp] theorem State.searchIfCandidateGone_kept (s : State) :
    (State.searchIfCandidateGone s).kept = s.kept := by
  unfold State.searchIfCandidateGone
  split <;> simp
@[simp] theorem State.removeExpired_kept (s : State) :
    (State.removeExpired s).kept = s.kept := by
  simp [State.removeExpired]
@[simp] theorem State.toLobby_kept (reason : Option LobbyReason) (s : State) :
    (State.toLobby reason s).kept = s.kept := by
  simp [State.toLobby]
@[simp] theorem State.becomeNumbered_kept (k : Nat) (cause : StationCause) (s : State) :
    (State.becomeNumbered k cause s).kept = s.kept := by
  simp [State.becomeNumbered]
@[simp] theorem State.releaseNumber_kept (next : Numbering) (cause : StationCause) (s : State) :
    (State.releaseNumber next cause s).kept = s.kept := by
  unfold State.releaseNumber
  split <;> simp
@[simp] theorem State.startListening_kept (s : State) :
    (State.startListening s).kept = s.kept := by
  simp [State.startListening]
@[simp] theorem State.recordSource_kept (src : Nat) (s : State) :
    (State.recordSource src s).kept = s.kept := by
  unfold State.recordSource
  split <;> simp
@[simp] theorem State.completeEntry_kept (src : Nat) (a : AnnounceFields) (s : State) :
    (State.completeEntry src a s).kept = s.kept := by
  unfold State.completeEntry
  split <;> simp
@[simp] theorem State.compareDuplicate_kept (own : Nat) (a : AnnounceFields) (s : State) :
    (State.compareDuplicate own a s).kept = s.kept := by
  unfold State.compareDuplicate
  (repeat' split) <;> simp <;> (repeat' split) <;> simp
@[simp] theorem State.claimResult_kept (r : ClaimResult) (s : State) :
    (State.claimResult r s).kept = s.kept := by
  unfold State.claimResult
  (repeat' split) <;> simp
@[simp] theorem State.abortRace_kept (reason : AbortReason) (s : State) :
    (State.abortRace reason s).kept = s.kept := by
  simp [State.abortRace]
@[simp] theorem State.startCountdown_kept (s : State) :
    (State.startCountdown s).kept = s.kept := by
  simp [State.startCountdown]
@[simp] theorem State.resumeCountdown_kept (s : State) :
    (State.resumeCountdown s).kept = s.kept := by
  unfold State.resumeCountdown
  split <;> simp
@[simp] theorem State.examineHolds_kept (s : State) :
    (State.examineHolds s).kept = s.kept := by
  unfold State.examineHolds
  (repeat' split) <;> simp
@[simp] theorem State.afterLoss_kept (s : State) :
    (State.afterLoss s).kept = s.kept := by
  simp [State.afterLoss]
@[simp] theorem State.suspendCountdown_kept (green : Nat) (s : State) :
    (State.suspendCountdown green s).kept = s.kept := by
  simp [State.suspendCountdown]
@[simp] theorem State.enterHold_kept (st : Nat) (s : State) :
    (State.enterHold st s).kept = s.kept := by
  unfold State.enterHold
  split <;> simp
@[simp] theorem State.applyHold_kept (st : Nat) (holding : Bool) (s : State) :
    (State.applyHold st holding s).kept = s.kept := by
  unfold State.applyHold
  (repeat' split) <;> simp
@[simp] theorem State.bench_kept (st : Nat) (s : State) :
    (State.bench st s).kept = s.kept := by
  simp [State.bench]
@[simp] theorem State.decideEnter_kept (st : Nat) (signature : Crc16) (s : State) :
    (State.decideEnter st signature s).kept = s.kept := by
  simp [State.decideEnter]
@[simp] theorem State.removeEntrant_kept (st : Nat) (s : State) :
    (State.removeEntrant st s).kept = s.kept := by
  simp [State.removeEntrant]
@[simp] theorem State.decideLeave_kept (st : Nat) (s : State) :
    (State.decideLeave st s).kept = s.kept := by
  unfold State.decideLeave
  (repeat' split) <;> simp
@[simp] theorem State.formGrid_kept (named : List Nat) (s : State) :
    (State.formGrid named s).kept = s.kept := by
  simp [State.formGrid]
@[simp] theorem State.takeCrossing_kept (x : CrossingContext) (s : State) (b : Nat) :
    (State.takeCrossing x s b).kept = s.kept := by
  unfold State.takeCrossing
  (repeat' split) <;> simp <;> (repeat' split) <;> simp
@[simp] theorem State.takeCrossings_kept (x : CrossingContext) (pmax : Int) (s : State) :
    (State.takeCrossings x pmax s).kept = s.kept := by
  unfold State.takeCrossings
  simp
  (repeat' split) <;> simp
@[simp] theorem State.raceReport_kept (t : Track) (st : Nat) (r : Report) (c : CarRecord) (s : State) :
    (State.raceReport t st r c s).kept = s.kept := by
  unfold State.raceReport
  simp
  (repeat' split) <;> simp
@[simp] theorem State.carBack_kept (st : Nat) (r : Report) (c : CarRecord) (s : State) :
    (State.carBack st r c s).kept = s.kept := by
  simp [State.carBack]
@[simp] theorem State.applyReport_kept (st : Nat) (r : Report) (s : State) :
    (State.applyReport st r s).1.kept = s.kept := by
  unfold State.applyReport
  (repeat' split) <;> simp
@[simp] theorem State.takeReport_kept (st : Nat) (r : Report) (s : State) :
    (State.takeReport st r s).kept = s.kept := by
  have hk := State.applyReport_kept st r s
  unfold State.takeReport
  simp only
  split <;> rename_i t heq <;> rw [heq] at hk
  · exact hk
  · rw [State.reevaluate_kept]
    split <;> simp [hk]
@[simp] theorem State.arriveIn_kept (carried : Phase) (green : Option Nat) (s : State) :
    (State.arriveIn carried green s).kept = s.kept := by
  unfold State.arriveIn
  split <;> simp
@[simp] theorem State.backBeforeGreen_kept (carried : Phase) (green : Option Nat) (s : State) :
    (State.backBeforeGreen carried green s).kept = s.kept := by
  simp [State.backBeforeGreen]
@[simp] theorem State.backFromCountdown_kept (carried : Phase) (s : State) :
    (State.backFromCountdown carried s).kept = s.kept := by
  simp [State.backFromCountdown]
@[simp] theorem State.takePhase_kept (carried : Phase) (green : Option Nat) (s : State) :
    (State.takePhase carried green s).kept = s.kept := by
  unfold State.takePhase
  (repeat' split) <;> simp <;> (repeat' split) <;> simp
@[simp] theorem State.takeEntriesPhase_kept (carried : Phase) (s : State) :
    (State.takeEntriesPhase carried s).kept = s.kept := by
  simp [State.takeEntriesPhase]
@[simp] theorem State.newRace_kept (raceNumber : Option Nat) (carried : Phase) (green : Option Nat)
    (options : Option (Options × TrackRef)) (s : State) :
    (State.newRace raceNumber carried green options s).kept = s.kept := by
  simp [State.newRace]
@[simp] theorem State.checkHold_kept (b : BeatFields) (s : State) :
    (State.checkHold b s).kept = s.kept := by
  unfold State.checkHold
  split <;> simp
@[simp] theorem State.askForResults_kept (b : BeatFields) (s : State) :
    (State.askForResults b s).kept = s.kept := by
  simp [State.askForResults]
@[simp] theorem State.takeRaceFields_kept (b : BeatFields) (s : State) :
    (State.takeRaceFields b s).kept = s.kept := by
  simp [State.takeRaceFields]
@[simp] theorem State.fallSilent_kept (st : Nat) (s : State) :
    (State.fallSilent st s).kept = s.kept := by
  unfold State.fallSilent
  split <;> simp
@[simp] theorem State.endListening_kept (s : State) :
    (State.endListening s).kept = s.kept := by
  unfold State.endListening
  simp only
  split
  · simp
  · simp only [State.chooseWanted_kept]
    rfl
@[simp] theorem State.dropStation_kept (st : Nat) (s : State) :
    (State.dropStation st s).kept = s.kept := by
  simp [State.dropStation]
@[simp] theorem State.meet_kept (d : Deadline) (s : State) :
    (State.meet d s).kept = s.kept := by
  unfold State.meet
  split <;> simp
@[simp] theorem State.meetDue_kept (n : Nat) (s : State) :
    (State.meetDue n s).kept = s.kept := by
  induction n generalizing s with
  | zero => rfl
  | succ n ih =>
    unfold State.meetDue
    (repeat' split) <;> simp [ih]
@[simp] theorem State.rebase_kept (source target : Nat) (s : State) :
    (State.rebase source target s).kept = s.kept := by
  unfold State.rebase
  rfl
@[simp] theorem State.follow_kept (source target : Nat) (s : State) :
    (State.follow source target s).kept = s.kept := by
  simp [State.follow]
@[simp] theorem State.noteBeat_kept (source : Nat) (s : State) :
    (State.noteBeat source s).kept = s.kept := by
  simp [State.noteBeat]
@[simp] theorem State.coastOrder_kept (s : State) :
    (State.coastOrder s).kept = s.kept := by
  simp [State.coastOrder]
@[simp] theorem State.finishBeat_kept (source : Nat) (b : BeatFields) (s : State) :
    (State.finishBeat source b s).kept = s.kept := by
  simp [State.finishBeat]
@[simp] theorem State.yieldTo_kept (source : Nat) (s : State) :
    (State.yieldTo source s).kept = s.kept := by
  simp [State.yieldTo]
@[simp] theorem State.takeBeat_kept (source : Nat) (b : BeatFields) (s : State) :
    (State.takeBeat source b s).kept = s.kept := by
  unfold State.takeBeat
  simp
  (repeat' split) <;> simp
@[simp] theorem State.hearBeat_kept (source : Nat) (b : BeatFields) (s : State) :
    (State.hearBeat source b s).kept = s.kept := by
  unfold State.hearBeat
  (repeat' split) <;> simp
/-- Leaving an own frame behind keeps it, but where a RESTART waited for the frame's end (R199). -/
@[simp] theorem State.land_kept (l : LineState) (s : State) (h : s.bus.leaving ≠ .toRestart) :
    (State.land l s).kept = s.kept := by
  simp [State.land, h]
@[simp] theorem State.handClaim_kept (fl : Flight) (r : ClaimResult) (s : State) :
    (State.handClaim fl r s).kept = s.kept := by
  simp [State.handClaim]
@[simp] theorem State.failAttempt_kept (fl : Flight) (s : State) :
    (State.failAttempt fl s).kept = s.kept := by
  simp [State.failAttempt]
@[simp] theorem State.suspect_kept (fl : Flight) (s : State) :
    (State.suspect fl s).kept = s.kept := by
  simp [State.suspect]
@[simp] theorem State.slotsRead_kept (fl : Flight) (acknowledged objected : Bool) (s : State) :
    (State.slotsRead fl acknowledged objected s).kept = s.kept := by
  simp [State.slotsRead]
/-- A stuck line keeps it while the controller stays on the line (R145). -/
@[simp] theorem State.stuck_kept (s : State) (h : s.bus.leaving = .no) :
    (State.stuck s).kept = s.kept := by
  unfold State.stuck
  simp only [h, ne_eq, not_true_eq_false, if_false]
  (repeat' split) <;> simp
@[simp] theorem State.acknowledge_kept (object : Bool) (s : State) :
    (State.acknowledge object s).kept = s.kept := by
  simp [State.acknowledge]
@[simp] theorem State.handOn_kept (source : Nat) (duplicate deliver : State → State) (s : State) (h0 : ∀ t,
    (duplicate t).kept = t.kept) (h1 : ∀ t, (deliver t).kept = t.kept) :
    (State.handOn source duplicate deliver s).kept = s.kept := by
  unfold State.handOn
  by_cases h : s.receives = true
  · simp only [h, if_true]
    split
    · split <;> simp [h0]
    · simp [h1]
  · simp [h]
@[simp] theorem State.handFrame_kept (source : Nat) (deliver : State → State) (s : State) (h0 : ∀ t,
    (deliver t).kept = t.kept) :
    (State.handFrame source deliver s).kept = s.kept := by
  simp [State.handFrame, h0]
@[simp] theorem State.handRaceFrame_kept (source n : Nat) (deliver : State → State) (s : State) (h0 : ∀ t,
    (deliver t).kept = t.kept) :
    (State.handRaceFrame source n deliver s).kept = s.kept := by
  simp [State.handRaceFrame, h0]
@[simp] theorem State.takeVerdictFrame_kept (v : VerdictFields) (s : State) :
    (State.takeVerdictFrame v s).kept = s.kept := by
  unfold State.takeVerdictFrame
  (repeat' split) <;> simp
@[simp] theorem State.takeRaceSetup_kept (r : RaceSetupFields) (s : State) :
    (State.takeRaceSetup r s).kept = s.kept := by
  simp [State.takeRaceSetup]
@[simp] theorem State.takeEntries_kept (e : EntriesFields) (s : State) :
    (State.takeEntries e s).kept = s.kept := by
  simp [State.takeEntries]
@[simp] theorem State.takeRetire_kept (st : Nat) (reason : RetireReason) (s : State) :
    (State.takeRetire st reason s).kept = s.kept := by
  simp [State.takeRetire]
@[simp] theorem State.takeResultsFrame_kept (n : Nat) (list : List ResultEntry) (s : State) :
    (State.takeResultsFrame n list s).kept = s.kept := by
  simp [State.takeResultsFrame]
@[simp] theorem State.takeAbortFrame_kept (reason : AbortReason) (s : State) :
    (State.takeAbortFrame reason s).kept = s.kept := by
  simp [State.takeAbortFrame]
@[simp] theorem State.takeRemote_kept (source : Nat) (r : Report) (s : State) :
    (State.takeRemote source r s).kept = s.kept := by
  simp [State.takeRemote]
@[simp] theorem State.answerAnnounce_kept (s : State) :
    (State.answerAnnounce s).kept = s.kept := by
  simp [State.answerAnnounce]
@[simp] theorem State.closeEntry_kept (s : State) :
    (State.closeEntry s).kept = s.kept := by
  simp only [State.closeEntry, ite_kept]
  (repeat' split) <;> simp
@[simp] theorem State.giveUpCandidate_kept (s : State) :
    (State.giveUpCandidate s).kept = s.kept := by
  unfold State.giveUpCandidate
  split <;> simp
@[simp] theorem State.watchdogOut_kept (s : State) :
    (State.watchdogOut s).kept = s.kept := by
  unfold State.watchdogOut
  split <;> simp
@[simp] theorem State.changeEligibility_kept (s : State) :
    (State.changeEligibility s).kept = s.kept := by
  simp [State.changeEligibility]
@[simp] theorem State.refreshOwnEntry_kept (s : State) :
    (State.refreshOwnEntry s).kept = s.kept := by
  unfold State.refreshOwnEntry
  split <;> simp
@[simp] theorem State.applySetup_kept (old new : Settings) (s : State) :
    (State.applySetup old new s).kept = s.kept := by
  simp [State.applySetup]
@[simp] theorem State.takeAttach_kept (s : State) :
    (State.takeAttach s).2.kept = s.kept := by
  unfold State.takeAttach
  split
  · rfl
  · simp [done]
    rfl
@[simp] theorem State.detachClock_kept (s : State) :
    (State.detachClock s).kept = s.kept := by
  simp [State.detachClock]
@[simp] theorem State.detachDirectory_kept (s : State) :
    (State.detachDirectory s).kept = s.kept := by
  unfold State.detachDirectory
  split <;> simp
@[simp] theorem State.takeDetach_kept (s : State) :
    (State.takeDetach s).2.kept = s.kept := by
  unfold State.takeDetach
  (repeat' split) <;> simp [done]
@[simp] theorem State.takeEnter_kept (s : State) :
    (State.takeEnter s).2.kept = s.kept := by
  unfold State.takeEnter
  simp only [done, refuse]
  split
  · rfl
  · split
    · rfl
    · split <;> simp
@[simp] theorem State.takeLeave_kept (s : State) :
    (State.takeLeave s).2.kept = s.kept := by
  unfold State.takeLeave
  simp only [done, refuse]
  (repeat' split) <;> simp
@[simp] theorem State.wish_kept (holding : Bool) (s : State) :
    (State.wish holding s).kept = s.kept := by
  unfold State.wish
  simp
  (repeat' split) <;> simp
@[simp] theorem State.takeReady_kept (s : State) :
    (State.takeReady s).2.kept = s.kept := by
  simp only [State.takeReady, done, refuse, apply_ite Prod.snd, ite_kept, State.wish_kept, ite_self]
@[simp] theorem State.takeHold_kept (s : State) :
    (State.takeHold s).2.kept = s.kept := by
  simp only [State.takeHold, done, refuse, apply_ite Prod.snd, ite_kept, State.wish_kept, ite_self]
@[simp] theorem State.takeCar_kept (f : CarFields) (s : State) :
    (State.takeCar f s).2.kept = s.kept := by
  unfold State.takeCar
  (repeat' split) <;> try rfl
  all_goals simp
@[simp] theorem State.openRace_kept (f : OpenFields) (s : State) :
    (State.openRace f s).kept = s.kept := by
  simp [State.openRace]
@[simp] theorem State.takeOpen_kept (f : OpenFields) (s : State) :
    (State.takeOpen f s).2.kept = s.kept := by
  unfold State.takeOpen
  (repeat' split) <;> try rfl
  all_goals simp
@[simp] theorem State.takeFormGrid_kept (named : List Nat) (s : State) :
    (State.takeFormGrid named s).2.kept = s.kept := by
  simp only [State.takeFormGrid, done, refuse, apply_ite Prod.snd, ite_kept, State.formGrid_kept, ite_self]
@[simp] theorem State.takeAbort_kept (s : State) :
    (State.takeAbort s).2.kept = s.kept := by
  simp only [State.takeAbort, done, refuse, apply_ite Prod.snd, ite_kept, State.abortRace_kept, ite_self]
@[simp] theorem State.takeClose_kept (s : State) :
    (State.takeClose s).2.kept = s.kept := by
  simp only [State.takeClose, done, refuse, apply_ite Prod.snd, ite_kept, State.toLobby_kept, ite_self]
@[simp] theorem State.takeAskCar_kept (n : CarName) (s : State) :
    (State.takeAskCar n s).2.kept = s.kept := by
  unfold State.takeAskCar
  (repeat' split) <;> rfl
@[simp] theorem State.takeAskOrder_kept (s : State) :
    (State.takeAskOrder s).2.kept = s.kept := by
  simp [State.takeAskOrder]
@[simp] theorem State.takeAskResults_kept (s : State) :
    (State.takeAskResults s).2.kept = s.kept := by
  simp [State.takeAskResults]
@[simp] theorem State.takeAskStatus_kept (clear : Bool) (s : State) :
    (State.takeAskStatus clear s).2.kept = s.kept := by
  simp [State.takeAskStatus]
@[simp] theorem State.takeTimeForm_kept (v : TimeValue) (s : State) :
    (State.takeTimeForm v s).2.kept = s.kept := by
  unfold State.takeTimeForm
  (repeat' split) <;> rfl
@[simp] theorem State.takeFetch_kept (s : State) :
    (State.takeFetch s).2.kept = s.kept := by
  simp [State.takeFetch]

end Sys2Proof.Machine
end

