-- ==== Sys2Proof/Laws/Notices.lean ====
section
/-! SUPPORT. The Notice Queue: the four rows of R194, and that every shared operation keeps the queue within its
limits (each raises notices and touches the queue in no other way). They speak of State.NoticesOk, so that no rewriting of
(s.raise b).notices hides the head they match. -/

namespace Sys2Proof.Machine

/-! ## The queue's own operations -/

theorem filter_map_order (n : Notice) (l : List Notice) (hn : n.isOrder = true) :
    ((l.map fun m => if m.isOrder then n else m).filter Notice.isOrder).length =
    (l.filter Notice.isOrder).length := by
  induction l with
  | nil => rfl
  | cons m l ih => by_cases h : m.isOrder <;> simp_all

/-- An ORDER with one waiting rewrites it in place; nothing else of the queue changes (R194 row 1). -/
theorem NoticeQueue.accept_rewrites {q : NoticeQueue} {n : Notice} (hn : n.isOrder = true)
    (hq : q.list.any Notice.isOrder = true) :
    q.accept n = { q with list := q.list.map fun m => if m.isOrder then n else m } := by
  simp [NoticeQueue.accept, hn, hq]

/-- Any other notice is appended while there is room (R194 rows 2 and 3). -/
theorem NoticeQueue.accept_appends {q : NoticeQueue} {n : Notice}
    (hn : (n.isOrder && q.list.any Notice.isOrder) = false) (hl : q.list.length < 32) :
    q.accept n = { q with list := q.list ++ [n] } := by
  simp only [NoticeQueue.accept, hn, Config.noticeCapacity, hl]
  rfl

/-- Any other notice is dropped and counted when 32 are waiting (R194 row 4). -/
theorem NoticeQueue.accept_drops {q : NoticeQueue} {n : Notice}
    (hn : (n.isOrder && q.list.any Notice.isOrder) = false) (hl : 32 ≤ q.list.length) :
    q.accept n = { q with dropped := min (q.dropped + 1) 255 } := by
  simp only [NoticeQueue.accept, hn, Config.noticeCapacity, Nat.not_lt.mpr hl]
  rfl

/-- Accepting a notice keeps the queue within its limits. -/
theorem NoticeQueue.accept_Ok {q : NoticeQueue} (n : Notice) (h : q.Ok) : (q.accept n).Ok := by
  obtain ⟨h1, h2, h3, h4⟩ := h
  by_cases hn : (n.isOrder && q.list.any Notice.isOrder) = true
  · rw [Bool.and_eq_true] at hn
    rw [NoticeQueue.accept_rewrites hn.1 hn.2]
    refine ⟨by simpa using h1, by simpa [filter_map_order n q.list hn.1] using h2, h3, ?_⟩
    intro e
    exact h4 (by simpa using e)
  · rw [Bool.not_eq_true] at hn
    by_cases hl : q.list.length < 32
    · rw [NoticeQueue.accept_appends hn hl]
      refine ⟨by simpa [Config.noticeCapacity] using hl, ?_, h3, by simp⟩
      rw [List.filter_append, List.length_append]
      by_cases ho : n.isOrder = true
      · have : q.list.filter Notice.isOrder = [] := by
          rw [ho, Bool.true_and] at hn
          simpa [List.filter_eq_nil_iff] using hn
        simp [this, ho]
      · simpa [ho] using h2
    · rw [NoticeQueue.accept_drops hn (Nat.not_lt.mp hl)]
      refine ⟨h1, h2, Nat.min_le_right _ _, ?_⟩
      intro e
      have e : q.list = [] := e
      exact absurd (show q.list.length < 32 by rw [e]; decide) hl

/-- A FETCH keeps the queue within its limits (R196, R197). -/
theorem NoticeQueue.fetch_Ok {q : NoticeQueue} (now : Nat) (h : q.Ok) : (q.fetch now).Ok := by
  obtain ⟨h1, h2, h3, h4⟩ := h
  have hf : ((q.list.drop 8).filter Notice.isOrder).length ≤ 1 :=
    le_trans (List.Sublist.length_le ((List.drop_sublist 8 _).filter _)) h2
  have hd : (q.list.drop 8).length ≤ q.list.length := by simp
  unfold NoticeQueue.fetch
  dsimp only
  split
  · rename_i hc
    refine ⟨le_trans hd h1, hf, h3, ?_⟩
    intro _
    rcases hc with he | he
    · exact h4 (List.isEmpty_iff.mp he)
    · exact he
  · rename_i hc
    rw [not_or] at hc
    refine ⟨?_, ?_, Nat.zero_le _, by simp⟩
    · have : 0 < q.list.length := by
        rcases hl : q.list with _ | ⟨a, l⟩
        · simp [hl] at hc
        · simp
      simp only [List.length_append, List.length_drop, List.length_singleton] at *
      unfold Config.noticeCapacity at *
      omega
    · rw [List.filter_append, List.length_append]
      simpa [Notice.isOrder] using hf

/-- The Notice Queue of a state is within its limits. -/
def State.NoticesOk (s : State) : Prop := s.notices.Ok

/-! ## What every shared operation keeps -/

@[simp] theorem State.raise_noticesOk (b : NoticeBody) (s : State) (h : s.NoticesOk) : (s.raise b).NoticesOk := by
  exact NoticeQueue.accept_Ok _ h
@[simp] theorem withTrack_noticesOk (o) (s : State) (h : s.NoticesOk) : (s.withTrack o).NoticesOk := h
@[simp] theorem withCars_noticesOk (o) (s : State) (h : s.NoticesOk) : (s.withCars o).NoticesOk := h
@[simp] theorem withOrder_noticesOk (o) (s : State) (h : s.NoticesOk) : (s.withOrder o).NoticesOk := h
@[simp] theorem withRace_noticesOk (o) (s : State) (h : s.NoticesOk) : (s.withRace o).NoticesOk := h
@[simp] theorem withFinish_noticesOk (o) (s : State) (h : s.NoticesOk) : (s.withFinish o).NoticesOk := h
@[simp] theorem withClock_noticesOk (o) (s : State) (h : s.NoticesOk) : (s.withClock o).NoticesOk := h
@[simp] theorem withDir_noticesOk (o) (s : State) (h : s.NoticesOk) : (s.withDir o).NoticesOk := h
@[simp] theorem withBus_noticesOk (o) (s : State) (h : s.NoticesOk) : (s.withBus o).NoticesOk := h
@[simp] theorem withLink_noticesOk (o) (s : State) (h : s.NoticesOk) : (s.withLink o).NoticesOk := h
@[simp] theorem withPending_noticesOk (o) (s : State) (h : s.NoticesOk) : (s.withPending o).NoticesOk := h

@[simp] theorem withOutbound_noticesOk (o : Outbound) (s : State) (h : s.NoticesOk) :
    (s.withOutbound o).NoticesOk := h
@[simp] theorem storeSettings_noticesOk (o : Settings) (s : State) (h : s.NoticesOk) :
    (s.storeSettings o).NoticesOk := h

@[simp] theorem ite_noticesOk {c : Prop} [Decidable c] (a b : State) (ha : a.NoticesOk) (hb : b.NoticesOk) :
    (if c then a else b).NoticesOk := by split <;> assumption

@[simp] theorem foldl_noticesOk {α : Type} {f : State → α → State} (h : ∀ s a, s.NoticesOk → (f s a).NoticesOk)
    (l : List α) :
    ∀ s : State, s.NoticesOk → (l.foldl f s).NoticesOk := by
  induction l with
  | nil => intro s hs; exact hs
  | cons a l ih => intro s hs; exact ih _ (h s a hs)

@[simp] theorem State.raiseAll_noticesOk (bs : List NoticeBody) (s : State) (h : s.NoticesOk) :
    (State.raiseAll bs s).NoticesOk := by
  unfold State.raiseAll
  exact foldl_noticesOk (fun s b h => State.raise_noticesOk b s h) bs s h
@[simp] theorem State.restartWatchdog_noticesOk (s : State) (h : s.NoticesOk) :
    (State.restartWatchdog s).NoticesOk := by
  simp (maxDischargeDepth := 30) [State.restartWatchdog, h]
@[simp] theorem State.updateCar_noticesOk (st : Nat) (f : CarRecord → CarRecord) (s : State) (h : s.NoticesOk) :
    (State.updateCar st f s).NoticesOk := by
  simp (maxDischargeDepth := 30) [State.updateCar, h]
@[simp] theorem State.setLights_noticesOk (n : Nat) (s : State) (h : s.NoticesOk) :
    (State.setLights n s).NoticesOk := by
  simp (maxDischargeDepth := 30) [State.setLights, h]
@[simp] theorem State.updateLights_noticesOk (s : State) (h : s.NoticesOk) :
    (State.updateLights s).NoticesOk := by
  simp (maxDischargeDepth := 30) [State.updateLights, h]
@[simp] theorem State.raiseTxFailed_noticesOk (f : Frame) (attempts : Nat) (cause : TxCause) (s : State)
    (h : s.NoticesOk) :
    (State.raiseTxFailed f attempts cause s).NoticesOk := by
  simp (maxDischargeDepth := 30) [State.raiseTxFailed, h]
@[simp] theorem State.depositFifo_noticesOk (capacity : Nat) (f : Frame) (q : List Held) (s : State)
    (h : s.NoticesOk) :
    (State.depositFifo capacity f q s).NoticesOk := by
  unfold State.depositFifo
  (repeat' split) <;> simp (maxDischargeDepth := 30) [done, refuse, *] <;> (repeat' split) <;> simp
    (maxDischargeDepth := 30) [*]
@[simp] theorem State.countSuperseded_noticesOk (n : Nat) (s : State) (h : s.NoticesOk) :
    (State.countSuperseded n s).NoticesOk := by
  simp (maxDischargeDepth := 30) [State.countSuperseded, h]
@[simp] theorem State.deposit_noticesOk (f : Frame) (s : State) (h : s.NoticesOk) :
    (State.deposit f s).NoticesOk := by
  unfold State.deposit
  split <;> simp (maxDischargeDepth := 30) [*]
@[simp] theorem State.announce_noticesOk (s : State) (h : s.NoticesOk) :
    (State.announce s).NoticesOk := by
  simp (maxDischargeDepth := 30) [State.announce, h]
@[simp] theorem State.withdrawUnsent_noticesOk (k : FrameKind) (s : State) (h : s.NoticesOk) :
    (State.withdrawUnsent k s).NoticesOk := by
  simp (maxDischargeDepth := 30) [State.withdrawUnsent, h]
@[simp] theorem State.giveUp_noticesOk (f : Frame) (attempts : Nat) (s : State) (h : s.NoticesOk) :
    (State.giveUp f attempts s).NoticesOk := by
  simp (maxDischargeDepth := 30) [State.giveUp, h]
@[simp] theorem State.flightOutcome_noticesOk (fl : Flight) (e : FlightEnd) (attempts : Nat) (followUp : Bool)
    (s : State) (h : s.NoticesOk) :
    (State.flightOutcome fl e attempts followUp s).NoticesOk := by
  simp (maxDischargeDepth := 30) [State.flightOutcome, h]
@[simp] theorem State.endFlight_noticesOk (e : FlightEnd) (s : State) (h : s.NoticesOk) :
    (State.endFlight e s).NoticesOk := by
  unfold State.endFlight
  (repeat' split) <;> simp (maxDischargeDepth := 30) [*]
@[simp] theorem State.purgeRace_noticesOk (s : State) (h : s.NoticesOk) :
    (State.purgeRace s).NoticesOk := by
  simp (maxDischargeDepth := 30) [State.purgeRace, h]
@[simp] theorem State.purgeNumber_noticesOk (s : State) (h : s.NoticesOk) :
    (State.purgeNumber s).NoticesOk := by
  simp (maxDischargeDepth := 30) [State.purgeNumber, h]
@[simp] theorem State.purgeDetach_noticesOk (s : State) (h : s.NoticesOk) :
    (State.purgeDetach s).NoticesOk := by
  simp (maxDischargeDepth := 30) [State.purgeDetach, h]
@[simp] theorem State.reevaluate_noticesOk (s : State) (h : s.NoticesOk) :
    (State.reevaluate s).NoticesOk := by
  simp (maxDischargeDepth := 30) [State.reevaluate, h]
@[simp] theorem State.reevaluateAfter_noticesOk (before : List CarRecord) (s : State) (h : s.NoticesOk) :
    (State.reevaluateAfter before s).NoticesOk := by
  simp (maxDischargeDepth := 30) [State.reevaluateAfter, h]
@[simp] theorem State.lapCompleted_noticesOk (c : CarRecord) (lap time : Nat) (s : State) (h : s.NoticesOk) :
    (State.lapCompleted c lap time s).NoticesOk := by
  simp (maxDischargeDepth := 30) [State.lapCompleted, h]
@[simp] theorem State.setPhase_noticesOk (new : Phase) (s : State) (h : s.NoticesOk) :
    (State.setPhase new s).NoticesOk := by
  simp (maxDischargeDepth := 30) [State.setPhase, h]
@[simp] theorem State.changePhase_noticesOk (previous new : Phase) (reason : Option LobbyReason) (s : State)
    (h : s.NoticesOk) :
    (State.changePhase previous new reason s).NoticesOk := by
  simp (maxDischargeDepth := 30) [State.changePhase, h]
@[simp] theorem State.clearRaceQuietly_noticesOk (s : State) (h : s.NoticesOk) :
    (State.clearRaceQuietly s).NoticesOk := by
  exact State.purgeRace_noticesOk _ h
@[simp] theorem State.clearRace_noticesOk (s : State) (h : s.NoticesOk) :
    (State.clearRace s).NoticesOk := by
  simp (maxDischargeDepth := 30) [State.clearRace, h]
@[simp] theorem State.applyGreen_noticesOk (arriving : Phase) (s : State) (h : s.NoticesOk) :
    (State.applyGreen arriving s).NoticesOk := by
  simp (maxDischargeDepth := 30) [State.applyGreen, h]
@[simp] theorem State.undoGreen_noticesOk (s : State) (h : s.NoticesOk) :
    (State.undoGreen s).NoticesOk := by
  simp (maxDischargeDepth := 30) [State.undoGreen, h]
@[simp] theorem State.fillSlots_noticesOk (s : State) (h : s.NoticesOk) :
    (State.fillSlots s).NoticesOk := by
  simp (maxDischargeDepth := 30) [State.fillSlots, h]
@[simp] theorem State.handEntries_noticesOk (s : State) (h : s.NoticesOk) :
    (State.handEntries s).NoticesOk := by
  simp (maxDischargeDepth := 30) [State.handEntries, h]
@[simp] theorem State.settleEnter_noticesOk (s : State) (h : s.NoticesOk) :
    (State.settleEnter s).NoticesOk := by
  unfold State.settleEnter
  (repeat' split) <;> simp (maxDischargeDepth := 30) [*]
@[simp] theorem State.depositRaceSetup_noticesOk (s : State) (h : s.NoticesOk) :
    (State.depositRaceSetup s).NoticesOk := by
  simp (maxDischargeDepth := 30) [State.depositRaceSetup, h]
@[simp] theorem State.depositEntries_noticesOk (s : State) (h : s.NoticesOk) :
    (State.depositEntries s).NoticesOk := by
  simp (maxDischargeDepth := 30) [State.depositEntries, h]
@[simp] theorem State.withHoldTable_noticesOk (t : List HoldRow) (s : State) (h : s.NoticesOk) :
    (State.withHoldTable t s).NoticesOk := by
  simp (maxDischargeDepth := 30) [State.withHoldTable, h]
@[simp] theorem State.judge_noticesOk (e : PendingFinish) (s : State) (h : s.NoticesOk) :
    (State.judge e s).NoticesOk := by
  simp (maxDischargeDepth := 30) [State.judge, h]
@[simp] theorem State.unjudge_noticesOk (st : Nat) (s : State) (h : s.NoticesOk) :
    (State.unjudge st s).NoticesOk := by
  simp (maxDischargeDepth := 30) [State.unjudge, h]
@[simp] theorem State.handResults_noticesOk (es : List ResultEntry) (s : State) (h : s.NoticesOk) :
    (State.handResults es s).NoticesOk := by
  simp (maxDischargeDepth := 30) [State.handResults, h]
@[simp] theorem State.raiseResults_noticesOk (r : ResultsList) (s : State) (h : s.NoticesOk) :
    (State.raiseResults r s).NoticesOk := by
  simp (maxDischargeDepth := 30) [State.raiseResults, h]
@[simp] theorem State.depositResults_noticesOk (s : State) (h : s.NoticesOk) :
    (State.depositResults s).NoticesOk := by
  unfold State.depositResults
  split <;> simp (maxDischargeDepth := 30) [*]
@[simp] theorem State.publishResults_noticesOk (s : State) (h : s.NoticesOk) :
    (State.publishResults s).NoticesOk := by
  simp (maxDischargeDepth := 30) [State.publishResults, h]
@[simp] theorem State.endRace_noticesOk (s : State) (h : s.NoticesOk) :
    (State.endRace s).NoticesOk := by
  simp (maxDischargeDepth := 30) [State.endRace, h]
@[simp] theorem State.examineEnd_noticesOk (s : State) (h : s.NoticesOk) :
    (State.examineEnd s).NoticesOk := by
  simp (maxDischargeDepth := 30) [State.examineEnd, h]
@[simp] theorem State.raiseVerdict_noticesOk (st position tf : Nat) (marks : Marks) (s : State) (h : s.NoticesOk) :
    (State.raiseVerdict st position tf marks s).NoticesOk := by
  simp (maxDischargeDepth := 30) [State.raiseVerdict, h]
@[simp] theorem State.firstVerdict_noticesOk (s : State) (h : s.NoticesOk) :
    (State.firstVerdict s).NoticesOk := by
  simp (maxDischargeDepth := 30) [State.firstVerdict, h]
@[simp] theorem State.issue_noticesOk (e : PendingFinish) (s : State) (h : s.NoticesOk) :
    (State.issue e s).NoticesOk := by
  simp (maxDischargeDepth := 30) [State.issue, h]
@[simp] theorem State.issueDue_noticesOk (n : Nat) (s : State) (h : s.NoticesOk) :
    (State.issueDue n s).NoticesOk := by
  induction n generalizing s with
  | zero => exact h
  | succ n ih =>
    unfold State.issueDue
    (repeat' split) <;> simp (maxDischargeDepth := 30) [ih, h]
@[simp] theorem State.issueAllDue_noticesOk (s : State) (h : s.NoticesOk) :
    (State.issueAllDue s).NoticesOk := by
  simp (maxDischargeDepth := 30) [State.issueAllDue, h]
@[simp] theorem State.issueEvery_noticesOk (n : Nat) (s : State) (h : s.NoticesOk) :
    (State.issueEvery n s).NoticesOk := by
  induction n generalizing s with
  | zero => exact h
  | succ n ih =>
    unfold State.issueEvery
    (repeat' split) <;> simp (maxDischargeDepth := 30) [ih, h]
@[simp] theorem State.applyRetire_noticesOk (st : Nat) (reason : RetireReason) (s : State) (h : s.NoticesOk) :
    (State.applyRetire st reason s).NoticesOk := by
  unfold State.applyRetire
  split <;> simp (maxDischargeDepth := 30) [*]
@[simp] theorem State.refereeRetire_noticesOk (st : Nat) (reason : RetireReason) (s : State) (h : s.NoticesOk) :
    (State.refereeRetire st reason s).NoticesOk := by
  simp (maxDischargeDepth := 30) [State.refereeRetire, h]
@[simp] theorem State.applyVerdict_noticesOk (v : VerdictFields) (s : State) (h : s.NoticesOk) :
    (State.applyVerdict v s).NoticesOk := by
  unfold State.applyVerdict
  split <;> simp (maxDischargeDepth := 30) [*]
@[simp] theorem State.raiseCount_noticesOk (n : Nat) (s : State) (h : s.NoticesOk) :
    (State.raiseCount n s).NoticesOk := by
  simp (maxDischargeDepth := 30) [State.raiseCount, h]
@[simp] theorem State.reconcile_noticesOk (e : ResultEntry) (s : State) (h : s.NoticesOk) :
    (State.reconcile e s).NoticesOk := by
  unfold State.reconcile
  split <;> simp (maxDischargeDepth := 30) [*]
@[simp] theorem State.takeResults_noticesOk (r : ResultsList) (s : State) (h : s.NoticesOk) :
    (State.takeResults r s).NoticesOk := by
  unfold State.takeResults
  have hr : ∀ u : State, u.NoticesOk → (r.entries.foldl (fun s e => s.reconcile e) u).NoticesOk :=
    foldl_noticesOk (fun s e h => State.reconcile_noticesOk e s h) r.entries
  (repeat' split) <;> simp (maxDischargeDepth := 30) [hr, h]
@[simp] theorem State.dropRefereeState_noticesOk (s : State) (h : s.NoticesOk) :
    (State.dropRefereeState s).NoticesOk := by
  simp (maxDischargeDepth := 30) [State.dropRefereeState, h]
@[simp] theorem State.dropBeat_noticesOk (s : State) (h : s.NoticesOk) :
    (State.dropBeat s).NoticesOk := by
  simp (maxDischargeDepth := 30) [State.dropBeat, h]
@[simp] theorem State.leaveActing_noticesOk (referee : Option Nat) (cause : RefereeCause) (s : State)
    (h : s.NoticesOk) :
    (State.leaveActing referee cause s).NoticesOk := by
  simp (maxDischargeDepth := 30) [State.leaveActing, h]
@[simp] theorem State.resignActing_noticesOk (cause : RefereeCause) (s : State) (h : s.NoticesOk) :
    (State.resignActing cause s).NoticesOk := by
  simp (maxDischargeDepth := 30) [State.resignActing, h]
@[simp] theorem State.setUpPhase_noticesOk (s : State) (h : s.NoticesOk) :
    (State.setUpPhase s).NoticesOk := by
  unfold State.setUpPhase
  split <;> simp (maxDischargeDepth := 30) [*]
@[simp] theorem State.setUpRace_noticesOk (s : State) (h : s.NoticesOk) :
    (State.setUpRace s).NoticesOk := by
  simp (maxDischargeDepth := 30) [State.setUpRace, h]
@[simp] theorem State.setUpFinish_noticesOk (s : State) (h : s.NoticesOk) :
    (State.setUpFinish s).NoticesOk := by
  unfold State.setUpFinish
  split <;> simp (maxDischargeDepth := 30) [*]
@[simp] theorem State.queueBeat_noticesOk (s : State) (h : s.NoticesOk) :
    (State.queueBeat s).NoticesOk := by
  simp (maxDischargeDepth := 30) [State.queueBeat, h]
@[simp] theorem State.restartBeatTimer_noticesOk (s : State) (h : s.NoticesOk) :
    (State.restartBeatTimer s).NoticesOk := by
  simp (maxDischargeDepth := 30) [State.restartBeatTimer, h]
@[simp] theorem State.startActing_noticesOk (own : Nat) (s : State) (h : s.NoticesOk) :
    (State.startActing own s).NoticesOk := by
  simp (maxDischargeDepth := 30) [State.startActing, h]
@[simp] theorem State.search_noticesOk (s : State) (h : s.NoticesOk) :
    (State.search s).NoticesOk := by
  unfold State.search
  split <;> simp (maxDischargeDepth := 30) [*]
@[simp] theorem State.raiseStation_noticesOk (event : StationEvent) (n : Nat) (cause : Option StationCause)
    (s : State) (h : s.NoticesOk) :
    (State.raiseStation event n cause s).NoticesOk := by
  simp (maxDischargeDepth := 30) [State.raiseStation, h]
@[simp] theorem State.createRecord_noticesOk (st : Nat) (s : State) (h : s.NoticesOk) :
    (State.createRecord st s).NoticesOk := by
  simp (maxDischargeDepth := 30) [State.createRecord, h]
@[simp] theorem State.removeRecord_noticesOk (st : Nat) (s : State) (h : s.NoticesOk) :
    (State.removeRecord st s).NoticesOk := by
  simp (maxDischargeDepth := 30) [State.removeRecord, h]
@[simp] theorem State.withEntries_noticesOk (es : List DirEntry) (s : State) (h : s.NoticesOk) :
    (State.withEntries es s).NoticesOk := by
  simp (maxDischargeDepth := 30) [State.withEntries, h]
@[simp] theorem State.chooseWanted_noticesOk (s : State) (h : s.NoticesOk) :
    (State.chooseWanted s).NoticesOk := by
  unfold State.chooseWanted
  split <;> simp (maxDischargeDepth := 30) [*]
@[simp] theorem State.chooseAfresh_noticesOk (s : State) (h : s.NoticesOk) :
    (State.chooseAfresh s).NoticesOk := by
  simp (maxDischargeDepth := 30) [State.chooseAfresh, h]
@[simp] theorem State.makeQuiet_noticesOk (st : Nat) (s : State) (h : s.NoticesOk) :
    (State.makeQuiet st s).NoticesOk := by
  unfold State.makeQuiet
  split <;> simp (maxDischargeDepth := 30) [*]
@[simp] theorem State.removeEntry_noticesOk (st : Nat) (s : State) (h : s.NoticesOk) :
    (State.removeEntry st s).NoticesOk := by
  simp (maxDischargeDepth := 30) [State.removeEntry, h]
@[simp] theorem State.searchIfCandidateGone_noticesOk (s : State) (h : s.NoticesOk) :
    (State.searchIfCandidateGone s).NoticesOk := by
  unfold State.searchIfCandidateGone
  split <;> simp (maxDischargeDepth := 30) [*]
@[simp] theorem State.removeExpired_noticesOk (s : State) (h : s.NoticesOk) :
    (State.removeExpired s).NoticesOk := by
  unfold State.removeExpired
  exact State.searchIfCandidateGone_noticesOk _ (foldl_noticesOk
    (fun s n h => State.removeEntry_noticesOk n s h) _ s h)
@[simp] theorem State.toLobby_noticesOk (reason : Option LobbyReason) (s : State) (h : s.NoticesOk) :
    (State.toLobby reason s).NoticesOk := by
  simp (maxDischargeDepth := 30) [State.toLobby, h]
@[simp] theorem State.becomeNumbered_noticesOk (k : Nat) (cause : StationCause) (s : State) (h : s.NoticesOk) :
    (State.becomeNumbered k cause s).NoticesOk := by
  simp (maxDischargeDepth := 30) [State.becomeNumbered, h]
@[simp] theorem State.releaseNumber_noticesOk (next : Numbering) (cause : StationCause) (s : State)
    (h : s.NoticesOk) :
    (State.releaseNumber next cause s).NoticesOk := by
  unfold State.releaseNumber
  split <;> simp (maxDischargeDepth := 30) [*]
@[simp] theorem State.startListening_noticesOk (s : State) (h : s.NoticesOk) :
    (State.startListening s).NoticesOk := by
  simp (maxDischargeDepth := 30) [State.startListening, h]
@[simp] theorem State.recordSource_noticesOk (src : Nat) (s : State) (h : s.NoticesOk) :
    (State.recordSource src s).NoticesOk := by
  unfold State.recordSource
  split <;> simp (maxDischargeDepth := 30) [*]
@[simp] theorem State.completeEntry_noticesOk (src : Nat) (a : AnnounceFields) (s : State) (h : s.NoticesOk) :
    (State.completeEntry src a s).NoticesOk := by
  unfold State.completeEntry
  split <;> simp (maxDischargeDepth := 30) [*]
@[simp] theorem State.compareDuplicate_noticesOk (own : Nat) (a : AnnounceFields) (s : State) (h : s.NoticesOk) :
    (State.compareDuplicate own a s).NoticesOk := by
  unfold State.compareDuplicate
  (repeat' split) <;> simp (maxDischargeDepth := 30) [done, refuse, *] <;> (repeat' split) <;> simp
    (maxDischargeDepth := 30) [*]
@[simp] theorem State.claimResult_noticesOk (r : ClaimResult) (s : State) (h : s.NoticesOk) :
    (State.claimResult r s).NoticesOk := by
  unfold State.claimResult
  (repeat' split) <;> simp (maxDischargeDepth := 30) [*]
@[simp] theorem State.abortRace_noticesOk (reason : AbortReason) (s : State) (h : s.NoticesOk) :
    (State.abortRace reason s).NoticesOk := by
  simp (maxDischargeDepth := 30) [State.abortRace, h]
@[simp] theorem State.startCountdown_noticesOk (s : State) (h : s.NoticesOk) :
    (State.startCountdown s).NoticesOk := by
  simp (maxDischargeDepth := 30) [State.startCountdown, h]
@[simp] theorem State.resumeCountdown_noticesOk (s : State) (h : s.NoticesOk) :
    (State.resumeCountdown s).NoticesOk := by
  unfold State.resumeCountdown
  split <;> simp (maxDischargeDepth := 30) [*]
@[simp] theorem State.examineHolds_noticesOk (s : State) (h : s.NoticesOk) :
    (State.examineHolds s).NoticesOk := by
  unfold State.examineHolds
  (repeat' split) <;> simp (maxDischargeDepth := 30) [*]
@[simp] theorem State.afterLoss_noticesOk (s : State) (h : s.NoticesOk) :
    (State.afterLoss s).NoticesOk := by
  simp (maxDischargeDepth := 30) [State.afterLoss, h]
@[simp] theorem State.suspendCountdown_noticesOk (green : Nat) (s : State) (h : s.NoticesOk) :
    (State.suspendCountdown green s).NoticesOk := by
  simp (maxDischargeDepth := 30) [State.suspendCountdown, h]
@[simp] theorem State.enterHold_noticesOk (st : Nat) (s : State) (h : s.NoticesOk) :
    (State.enterHold st s).NoticesOk := by
  unfold State.enterHold
  split <;> simp (maxDischargeDepth := 30) [*]
@[simp] theorem State.applyHold_noticesOk (st : Nat) (holding : Bool) (s : State) (h : s.NoticesOk) :
    (State.applyHold st holding s).NoticesOk := by
  unfold State.applyHold
  (repeat' split) <;> simp (maxDischargeDepth := 30) [*]
@[simp] theorem State.bench_noticesOk (st : Nat) (s : State) (h : s.NoticesOk) :
    (State.bench st s).NoticesOk := by
  simp (maxDischargeDepth := 30) [State.bench, h]
@[simp] theorem State.decideEnter_noticesOk (st : Nat) (signature : Crc16) (s : State) (h : s.NoticesOk) :
    (State.decideEnter st signature s).NoticesOk := by
  simp (maxDischargeDepth := 30) [State.decideEnter, h]
@[simp] theorem State.removeEntrant_noticesOk (st : Nat) (s : State) (h : s.NoticesOk) :
    (State.removeEntrant st s).NoticesOk := by
  simp (maxDischargeDepth := 30) [State.removeEntrant, h]
@[simp] theorem State.decideLeave_noticesOk (st : Nat) (s : State) (h : s.NoticesOk) :
    (State.decideLeave st s).NoticesOk := by
  unfold State.decideLeave
  (repeat' split) <;> simp (maxDischargeDepth := 30) [*]
@[simp] theorem State.formGrid_noticesOk (named : List Nat) (s : State) (h : s.NoticesOk) :
    (State.formGrid named s).NoticesOk := by
  simp (maxDischargeDepth := 30) [State.formGrid, h]
@[simp] theorem State.takeCrossing_noticesOk (x : CrossingContext) (s : State) (b : Nat) (h : s.NoticesOk) :
    (State.takeCrossing x s b).NoticesOk := by
  unfold State.takeCrossing
  (repeat' split) <;> simp (maxDischargeDepth := 30) [done, refuse, *] <;> (repeat' split) <;> simp
    (maxDischargeDepth := 30) [*]
@[simp] theorem State.takeCrossings_noticesOk (x : CrossingContext) (pmax : Int) (s : State) (h : s.NoticesOk) :
    (State.takeCrossings x pmax s).NoticesOk := by
  unfold State.takeCrossings
  have hc : ∀ (l : List Nat) (u : State), u.NoticesOk → (l.foldl (State.takeCrossing x) u).NoticesOk :=
    foldl_noticesOk fun s b h => State.takeCrossing_noticesOk x s b h
  dsimp only
  split
  · split <;> simp (maxDischargeDepth := 30) [hc, h]
  · simp (maxDischargeDepth := 30) [hc, h]
@[simp] theorem State.raceReport_noticesOk (t : Track) (st : Nat) (r : Report) (c : CarRecord) (s : State)
    (h : s.NoticesOk) :
    (State.raceReport t st r c s).NoticesOk := by
  unfold State.raceReport
  (repeat' split) <;> simp (maxDischargeDepth := 30) [done, refuse, *] <;> (repeat' split) <;> simp
    (maxDischargeDepth := 30) [*]
@[simp] theorem State.carBack_noticesOk (st : Nat) (r : Report) (c : CarRecord) (s : State) (h : s.NoticesOk) :
    (State.carBack st r c s).NoticesOk := by
  simp (maxDischargeDepth := 30) [State.carBack, h]
@[simp] theorem State.applyReport_noticesOk (st : Nat) (r : Report) (s : State) (h : s.NoticesOk) :
    (State.applyReport st r s).1.NoticesOk := by
  unfold State.applyReport
  (repeat' split) <;> simp (maxDischargeDepth := 30) [*]
@[simp] theorem State.takeReport_noticesOk (st : Nat) (r : Report) (s : State) (h : s.NoticesOk) :
    (State.takeReport st r s).NoticesOk := by
  have hk := State.applyReport_noticesOk st r s h
  unfold State.takeReport
  simp only
  split <;> rename_i t heq <;> rw [heq] at hk
  · exact hk
  · apply State.reevaluate_noticesOk
    split
    · exact State.issueAllDue_noticesOk _ (State.judge_noticesOk _ _ hk)
    · exact hk
@[simp] theorem State.arriveIn_noticesOk (carried : Phase) (green : Option Nat) (s : State) (h : s.NoticesOk) :
    (State.arriveIn carried green s).NoticesOk := by
  unfold State.arriveIn
  split <;> simp (maxDischargeDepth := 30) [*]
@[simp] theorem State.backBeforeGreen_noticesOk (carried : Phase) (green : Option Nat) (s : State)
    (h : s.NoticesOk) :
    (State.backBeforeGreen carried green s).NoticesOk := by
  simp (maxDischargeDepth := 30) [State.backBeforeGreen, h]
@[simp] theorem State.backFromCountdown_noticesOk (carried : Phase) (s : State) (h : s.NoticesOk) :
    (State.backFromCountdown carried s).NoticesOk := by
  simp (maxDischargeDepth := 30) [State.backFromCountdown, h]
@[simp] theorem State.takePhase_noticesOk (carried : Phase) (green : Option Nat) (s : State) (h : s.NoticesOk) :
    (State.takePhase carried green s).NoticesOk := by
  unfold State.takePhase
  (repeat' split) <;> simp (maxDischargeDepth := 30) [done, refuse, *] <;> (repeat' split) <;> simp
    (maxDischargeDepth := 30) [*]
@[simp] theorem State.takeEntriesPhase_noticesOk (carried : Phase) (s : State) (h : s.NoticesOk) :
    (State.takeEntriesPhase carried s).NoticesOk := by
  simp (maxDischargeDepth := 30) [State.takeEntriesPhase, h]
@[simp] theorem State.newRace_noticesOk (raceNumber : Option Nat) (carried : Phase) (green : Option Nat)
    (options : Option (Options × TrackRef)) (s : State) (h : s.NoticesOk) :
    (State.newRace raceNumber carried green options s).NoticesOk := by
  simp (maxDischargeDepth := 30) [State.newRace, h]
@[simp] theorem State.checkHold_noticesOk (b : BeatFields) (s : State) (h : s.NoticesOk) :
    (State.checkHold b s).NoticesOk := by
  unfold State.checkHold
  split <;> simp (maxDischargeDepth := 30) [*]
@[simp] theorem State.askForResults_noticesOk (b : BeatFields) (s : State) (h : s.NoticesOk) :
    (State.askForResults b s).NoticesOk := by
  simp (maxDischargeDepth := 30) [State.askForResults, h]
@[simp] theorem State.takeRaceFields_noticesOk (b : BeatFields) (s : State) (h : s.NoticesOk) :
    (State.takeRaceFields b s).NoticesOk := by
  simp (maxDischargeDepth := 30) [State.takeRaceFields, h]
@[simp] theorem State.fallSilent_noticesOk (st : Nat) (s : State) (h : s.NoticesOk) :
    (State.fallSilent st s).NoticesOk := by
  unfold State.fallSilent
  split <;> simp (maxDischargeDepth := 30) [*]
@[simp] theorem State.endListening_noticesOk (s : State) (h : s.NoticesOk) :
    (State.endListening s).NoticesOk := by
  unfold State.endListening
  (repeat' split) <;> simp (maxDischargeDepth := 30) [done, refuse, *] <;> (repeat' split) <;> simp
    (maxDischargeDepth := 30) [*]
@[simp] theorem State.dropStation_noticesOk (st : Nat) (s : State) (h : s.NoticesOk) :
    (State.dropStation st s).NoticesOk := by
  simp (maxDischargeDepth := 30) [State.dropStation, h]
@[simp] theorem State.meet_noticesOk (d : Deadline) (s : State) (h : s.NoticesOk) :
    (State.meet d s).NoticesOk := by
  unfold State.meet
  split <;> simp (maxDischargeDepth := 30) [*]
@[simp] theorem State.meetDue_noticesOk (n : Nat) (s : State) (h : s.NoticesOk) :
    (State.meetDue n s).NoticesOk := by
  induction n generalizing s with
  | zero => exact h
  | succ n ih =>
    unfold State.meetDue
    (repeat' split) <;> simp (maxDischargeDepth := 30) [ih, h]
@[simp] theorem State.rebase_noticesOk (source target : Nat) (s : State) (h : s.NoticesOk) :
    (State.rebase source target s).NoticesOk := by
  exact State.raise_noticesOk _ _ h
@[simp] theorem State.follow_noticesOk (source target : Nat) (s : State) (h : s.NoticesOk) :
    (State.follow source target s).NoticesOk := by
  simp (maxDischargeDepth := 30) [State.follow, h]
@[simp] theorem State.noteBeat_noticesOk (source : Nat) (s : State) (h : s.NoticesOk) :
    (State.noteBeat source s).NoticesOk := by
  simp (maxDischargeDepth := 30) [State.noteBeat, h]
@[simp] theorem State.coastOrder_noticesOk (s : State) (h : s.NoticesOk) :
    (State.coastOrder s).NoticesOk := by
  simp (maxDischargeDepth := 30) [State.coastOrder, h]
@[simp] theorem State.finishBeat_noticesOk (source : Nat) (b : BeatFields) (s : State) (h : s.NoticesOk) :
    (State.finishBeat source b s).NoticesOk := by
  simp (maxDischargeDepth := 30) [State.finishBeat, h]
@[simp] theorem State.yieldTo_noticesOk (source : Nat) (s : State) (h : s.NoticesOk) :
    (State.yieldTo source s).NoticesOk := by
  simp (maxDischargeDepth := 30) [State.yieldTo, h]
@[simp] theorem State.takeBeat_noticesOk (source : Nat) (b : BeatFields) (s : State) (h : s.NoticesOk) :
    (State.takeBeat source b s).NoticesOk := by
  unfold State.takeBeat
  (repeat' split) <;> simp (maxDischargeDepth := 30) [done, refuse, *] <;> (repeat' split) <;> simp
    (maxDischargeDepth := 30) [*]
@[simp] theorem State.hearBeat_noticesOk (source : Nat) (b : BeatFields) (s : State) (h : s.NoticesOk) :
    (State.hearBeat source b s).NoticesOk := by
  unfold State.hearBeat
  (repeat' split) <;> simp (maxDischargeDepth := 30) [*]
@[simp] theorem State.performRestart_noticesOk (e : QueueEntry) (r : Request) (rest : List QueueEntry) (s : State) :
    (State.performRestart e r rest s).NoticesOk := by
  unfold State.performRestart
  exact State.raise_noticesOk _ _ (show NoticeQueue.empty.Ok from ⟨by decide, by decide, by decide, fun _ => rfl⟩)
@[simp] theorem State.finishRestart_noticesOk (s : State) (h : s.NoticesOk) :
    (State.finishRestart s).NoticesOk := by
  unfold State.finishRestart
  split
  · exact State.performRestart_noticesOk _ _ _ _
  · exact h
@[simp] theorem State.land_noticesOk (l : LineState) (s : State) (h : s.NoticesOk) :
    (State.land l s).NoticesOk := by
  simp only [State.land]
  split <;> simp [h]
@[simp] theorem State.handClaim_noticesOk (fl : Flight) (r : ClaimResult) (s : State) (h : s.NoticesOk) :
    (State.handClaim fl r s).NoticesOk := by
  simp (maxDischargeDepth := 30) [State.handClaim, h]
@[simp] theorem State.failAttempt_noticesOk (fl : Flight) (s : State) (h : s.NoticesOk) :
    (State.failAttempt fl s).NoticesOk := by
  simp (maxDischargeDepth := 30) [State.failAttempt, h]
@[simp] theorem State.suspect_noticesOk (fl : Flight) (s : State) (h : s.NoticesOk) :
    (State.suspect fl s).NoticesOk := by
  simp (maxDischargeDepth := 30) [State.suspect, h]
@[simp] theorem State.slotsRead_noticesOk (fl : Flight) (acknowledged objected : Bool) (s : State)
    (h : s.NoticesOk) :
    (State.slotsRead fl acknowledged objected s).NoticesOk := by
  simp (maxDischargeDepth := 30) [State.slotsRead, h]
@[simp] theorem State.stuck_noticesOk (s : State) (h : s.NoticesOk) :
    (State.stuck s).NoticesOk := by
  unfold State.stuck
  (repeat' split) <;> simp (maxDischargeDepth := 30) [done, refuse, *] <;> (repeat' split) <;> simp
    (maxDischargeDepth := 30) [*]
@[simp] theorem State.acknowledge_noticesOk (object : Bool) (s : State) (h : s.NoticesOk) :
    (State.acknowledge object s).NoticesOk := by
  simp (maxDischargeDepth := 30) [State.acknowledge, h]
@[simp] theorem State.handOn_noticesOk (source : Nat) (duplicate deliver : State → State) (s : State)
    (h0 : ∀ t, t.NoticesOk → (duplicate t).NoticesOk) (h1 : ∀ t, t.NoticesOk → (deliver t).NoticesOk)
    (h : s.NoticesOk) :
    (State.handOn source duplicate deliver s).NoticesOk := by
  unfold State.handOn
  (repeat' split) <;> simp (maxDischargeDepth := 30) [done, refuse, *] <;> (repeat' split) <;> simp
    (maxDischargeDepth := 30) [*]
@[simp] theorem State.handFrame_noticesOk (source : Nat) (deliver : State → State) (s : State)
    (h0 : ∀ t, t.NoticesOk → (deliver t).NoticesOk) (h : s.NoticesOk) :
    (State.handFrame source deliver s).NoticesOk := State.handOn_noticesOk source State.announce deliver s
    State.announce_noticesOk h0 h
@[simp] theorem State.handRaceFrame_noticesOk (source n : Nat) (deliver : State → State) (s : State)
    (h0 : ∀ t, t.NoticesOk → (deliver t).NoticesOk) (h : s.NoticesOk) :
    (State.handRaceFrame source n deliver s).NoticesOk := by
  apply State.handFrame_noticesOk _ _ _ _ h
  intro t ht
  split
  · exact h0 t ht
  · exact ht
@[simp] theorem State.takeVerdictFrame_noticesOk (v : VerdictFields) (s : State) (h : s.NoticesOk) :
    (State.takeVerdictFrame v s).NoticesOk := by
  unfold State.takeVerdictFrame
  (repeat' split) <;> simp (maxDischargeDepth := 30) [*]
@[simp] theorem State.takeRaceSetup_noticesOk (r : RaceSetupFields) (s : State) (h : s.NoticesOk) :
    (State.takeRaceSetup r s).NoticesOk := by
  simp (maxDischargeDepth := 30) [State.takeRaceSetup, h]
@[simp] theorem State.takeEntries_noticesOk (e : EntriesFields) (s : State) (h : s.NoticesOk) :
    (State.takeEntries e s).NoticesOk := by
  simp (maxDischargeDepth := 30) [State.takeEntries, h]
@[simp] theorem State.takeRetire_noticesOk (st : Nat) (reason : RetireReason) (s : State) (h : s.NoticesOk) :
    (State.takeRetire st reason s).NoticesOk := by
  simp (maxDischargeDepth := 30) [State.takeRetire, h]
@[simp] theorem State.takeResultsFrame_noticesOk (n : Nat) (list : List ResultEntry) (s : State) (h : s.NoticesOk) :
    (State.takeResultsFrame n list s).NoticesOk := by
  simp (maxDischargeDepth := 30) [State.takeResultsFrame, h]
@[simp] theorem State.takeAbortFrame_noticesOk (reason : AbortReason) (s : State) (h : s.NoticesOk) :
    (State.takeAbortFrame reason s).NoticesOk := by
  simp (maxDischargeDepth := 30) [State.takeAbortFrame, h]
@[simp] theorem State.takeRemote_noticesOk (source : Nat) (r : Report) (s : State) (h : s.NoticesOk) :
    (State.takeRemote source r s).NoticesOk := by
  simp (maxDischargeDepth := 30) [State.takeRemote, h]
@[simp] theorem State.answerAnnounce_noticesOk (s : State) (h : s.NoticesOk) :
    (State.answerAnnounce s).NoticesOk := by
  simp (maxDischargeDepth := 30) [State.answerAnnounce, h]
@[simp] theorem State.closeEntry_noticesOk (s : State) (h : s.NoticesOk) :
    (State.closeEntry s).NoticesOk := by
  unfold State.closeEntry
  apply ite_noticesOk <;> simp [h]
@[simp] theorem State.giveUpCandidate_noticesOk (s : State) (h : s.NoticesOk) :
    (State.giveUpCandidate s).NoticesOk := by
  unfold State.giveUpCandidate
  split <;> simp (maxDischargeDepth := 30) [*]
@[simp] theorem State.watchdogOut_noticesOk (s : State) (h : s.NoticesOk) :
    (State.watchdogOut s).NoticesOk := by
  unfold State.watchdogOut
  split <;> simp (maxDischargeDepth := 30) [*]
@[simp] theorem State.changeEligibility_noticesOk (s : State) (h : s.NoticesOk) :
    (State.changeEligibility s).NoticesOk := by
  simp (maxDischargeDepth := 30) [State.changeEligibility, h]
@[simp] theorem State.refreshOwnEntry_noticesOk (s : State) (h : s.NoticesOk) :
    (State.refreshOwnEntry s).NoticesOk := by
  unfold State.refreshOwnEntry
  split <;> simp (maxDischargeDepth := 30) [*]
@[simp] theorem State.applySetup_noticesOk (old new : Settings) (s : State) (h : s.NoticesOk) :
    (State.applySetup old new s).NoticesOk := by
  simp (maxDischargeDepth := 30) [State.applySetup, h]
@[simp] theorem State.takeSetup_noticesOk (f : SetupFields) (s : State) (h : s.NoticesOk) :
    (State.takeSetup f s).2.NoticesOk := by
  unfold State.takeSetup
  (repeat' split) <;> simp (maxDischargeDepth := 30) [done, refuse, *] <;> (repeat' split) <;> simp
    (maxDischargeDepth := 30) [*]
@[simp] theorem State.takeTrack_noticesOk (f : TrackFields) (s : State) (h : s.NoticesOk) :
    (State.takeTrack f s).2.NoticesOk := by
  unfold State.takeTrack
  (repeat' split) <;> simp (maxDischargeDepth := 30) [done, refuse, *] <;> (repeat' split) <;> simp
    (maxDischargeDepth := 30) [*]
@[simp] theorem State.takeAttach_noticesOk (s : State) (h : s.NoticesOk) :
    (State.takeAttach s).2.NoticesOk := by
  unfold State.takeAttach
  (repeat' split) <;> simp (maxDischargeDepth := 30) [done, refuse, *] <;> (repeat' split) <;> simp
    (maxDischargeDepth := 30) [*]
@[simp] theorem State.detachClock_noticesOk (s : State) (h : s.NoticesOk) :
    (State.detachClock s).NoticesOk := by
  simp (maxDischargeDepth := 30) [State.detachClock, h]
@[simp] theorem State.detachDirectory_noticesOk (s : State) (h : s.NoticesOk) :
    (State.detachDirectory s).NoticesOk := by
  unfold State.detachDirectory
  split <;> simp (maxDischargeDepth := 30) [*]
@[simp] theorem State.takeDetach_noticesOk (s : State) (h : s.NoticesOk) :
    (State.takeDetach s).2.NoticesOk := by
  unfold State.takeDetach
  (repeat' split) <;> simp (maxDischargeDepth := 30) [done, refuse, *] <;> (repeat' split) <;> simp
    (maxDischargeDepth := 30) [*]
@[simp] theorem State.takeEnter_noticesOk (s : State) (h : s.NoticesOk) :
    (State.takeEnter s).2.NoticesOk := by
  unfold State.takeEnter
  (repeat' split) <;> simp (maxDischargeDepth := 30) [done, refuse, *] <;> (repeat' split) <;> simp
    (maxDischargeDepth := 30) [*]
@[simp] theorem State.takeLeave_noticesOk (s : State) (h : s.NoticesOk) :
    (State.takeLeave s).2.NoticesOk := by
  unfold State.takeLeave
  (repeat' split) <;> simp (maxDischargeDepth := 30) [done, refuse, *] <;> (repeat' split) <;> simp
    (maxDischargeDepth := 30) [*]
@[simp] theorem State.wish_noticesOk (holding : Bool) (s : State) (h : s.NoticesOk) :
    (State.wish holding s).NoticesOk := by
  unfold State.wish
  (repeat' split) <;> simp (maxDischargeDepth := 30) [done, refuse, *] <;> (repeat' split) <;> simp
    (maxDischargeDepth := 30) [*]
@[simp] theorem State.takeReady_noticesOk (s : State) (h : s.NoticesOk) :
    (State.takeReady s).2.NoticesOk := by
  unfold State.takeReady
  (repeat' split) <;> simp (maxDischargeDepth := 30) [done, refuse, *] <;> (repeat' split) <;> simp
    (maxDischargeDepth := 30) [*]
@[simp] theorem State.takeHold_noticesOk (s : State) (h : s.NoticesOk) :
    (State.takeHold s).2.NoticesOk := by
  unfold State.takeHold
  (repeat' split) <;> simp (maxDischargeDepth := 30) [done, refuse, *] <;> (repeat' split) <;> simp
    (maxDischargeDepth := 30) [*]
@[simp] theorem State.takeCar_noticesOk (f : CarFields) (s : State) (h : s.NoticesOk) :
    (State.takeCar f s).2.NoticesOk := by
  unfold State.takeCar
  (repeat' split) <;> simp (maxDischargeDepth := 30) [done, refuse, *] <;> (repeat' split) <;> simp
    (maxDischargeDepth := 30) [*]
@[simp] theorem State.openRace_noticesOk (f : OpenFields) (s : State) (h : s.NoticesOk) :
    (State.openRace f s).NoticesOk := by
  simp (maxDischargeDepth := 30) [State.openRace, h]
@[simp] theorem State.takeOpen_noticesOk (f : OpenFields) (s : State) (h : s.NoticesOk) :
    (State.takeOpen f s).2.NoticesOk := by
  unfold State.takeOpen
  (repeat' split) <;> simp (maxDischargeDepth := 30) [done, refuse, *] <;> (repeat' split) <;> simp
    (maxDischargeDepth := 30) [*]
@[simp] theorem State.takeFormGrid_noticesOk (named : List Nat) (s : State) (h : s.NoticesOk) :
    (State.takeFormGrid named s).2.NoticesOk := by
  unfold State.takeFormGrid
  (repeat' split) <;> simp (maxDischargeDepth := 30) [done, refuse, *] <;> (repeat' split) <;> simp
    (maxDischargeDepth := 30) [*]
@[simp] theorem State.takeAbort_noticesOk (s : State) (h : s.NoticesOk) :
    (State.takeAbort s).2.NoticesOk := by
  unfold State.takeAbort
  (repeat' split) <;> simp (maxDischargeDepth := 30) [done, refuse, *] <;> (repeat' split) <;> simp
    (maxDischargeDepth := 30) [*]
@[simp] theorem State.takeClose_noticesOk (s : State) (h : s.NoticesOk) :
    (State.takeClose s).2.NoticesOk := by
  unfold State.takeClose
  (repeat' split) <;> simp (maxDischargeDepth := 30) [done, refuse, *] <;> (repeat' split) <;> simp
    (maxDischargeDepth := 30) [*]
@[simp] theorem State.takeAskCar_noticesOk (n : CarName) (s : State) (h : s.NoticesOk) :
    (State.takeAskCar n s).2.NoticesOk := by
  unfold State.takeAskCar
  (repeat' split) <;> simp (maxDischargeDepth := 30) [done, refuse, *] <;> (repeat' split) <;> simp
    (maxDischargeDepth := 30) [*]
@[simp] theorem State.takeAskOrder_noticesOk (s : State) (h : s.NoticesOk) :
    (State.takeAskOrder s).2.NoticesOk := by
  simp (maxDischargeDepth := 30) [State.takeAskOrder, h]
@[simp] theorem State.takeAskResults_noticesOk (s : State) (h : s.NoticesOk) :
    (State.takeAskResults s).2.NoticesOk := by
  simp (maxDischargeDepth := 30) [State.takeAskResults, h]
@[simp] theorem State.takeAskStatus_noticesOk (clear : Bool) (s : State) (h : s.NoticesOk) :
    (State.takeAskStatus clear s).2.NoticesOk := by
  simp (maxDischargeDepth := 30) [State.takeAskStatus, h]
@[simp] theorem State.takeTimeForm_noticesOk (v : TimeValue) (s : State) (h : s.NoticesOk) :
    (State.takeTimeForm v s).2.NoticesOk := by
  unfold State.takeTimeForm
  (repeat' split) <;> simp (maxDischargeDepth := 30) [done, refuse, *] <;> (repeat' split) <;> simp
    (maxDischargeDepth := 30) [*]
@[simp] theorem State.takeFetch_noticesOk (s : State) (h : s.NoticesOk) :
    (State.takeFetch s).2.NoticesOk := NoticeQueue.fetch_Ok _ h

end Sys2Proof.Machine
end

