-- ==== Sys2Proof/Laws/PerInstr.lean ====
section
/-! SUPPORT. Family FieldRange: what the well-formedness of a command says of the numbers every frame carries: a
source station is 0 to 7 and a race number is 1 to 255 (R204). One lemma for each constructor of `Instr`. -/

namespace Sys2Proof.Laws.FieldRange

/-- The source station a command's frame bears. -/
def source? : Instr → Option Nat
  | .beat src _ => some src
  | .verdict src _ => some src
  | .holdState src _ _ => some src
  | .raceSetup src _ => some src
  | .entries src _ => some src
  | .retire src _ _ _ => some src
  | .results src _ _ => some src
  | .controlAbort src _ _ => some src
  | .entryEnter src _ _ => some src
  | .entryLeave src _ => some src
  | .report src _ _ => some src
  | .announce src _ => some src
  | _ => none

/-- The race number a command's frame carries. -/
def raceNumber? : Instr → Option Nat
  | .verdict _ v => some v.raceNumber
  | .holdState _ n _ => some n
  | .raceSetup _ r => some r.raceNumber
  | .entries _ e => some e.raceNumber
  | .retire _ n _ _ => some n
  | .results _ n _ => some n
  | .controlAbort _ n _ => some n
  | .entryEnter _ n _ => some n
  | .entryLeave _ n => some n
  | .report _ n _ => some n
  | _ => none

/-- A well-formed command names a source from 0 to 7 and a race number from 1 to 255, where it names them. -/
def Statement (c : Instr) : Prop :=
  c.WellFormed → (∀ n, source? c = some n → n < 8) ∧ (∀ n, raceNumber? c = some n → 1 ≤ n ∧ n ≤ 255)

theorem setup (p : Form SetupFields) : Statement (.setup p) := fun _ => ⟨nofun, nofun⟩

theorem track (p : Form TrackFields) : Statement (.track p) := fun _ => ⟨nofun, nofun⟩

theorem attach (p : Form Unit) : Statement (.attach p) := fun _ => ⟨nofun, nofun⟩

theorem detach (p : Form Unit) : Statement (.detach p) := fun _ => ⟨nofun, nofun⟩

theorem restart (p : Form Unit) : Statement (.restart p) := fun _ => ⟨nofun, nofun⟩

theorem enter (p : Form Unit) : Statement (.enter p) := fun _ => ⟨nofun, nofun⟩

theorem leave (p : Form Unit) : Statement (.leave p) := fun _ => ⟨nofun, nofun⟩

theorem ready (p : Form Unit) : Statement (.ready p) := fun _ => ⟨nofun, nofun⟩

theorem hold (p : Form Unit) : Statement (.hold p) := fun _ => ⟨nofun, nofun⟩

theorem car (p : Form CarFields) : Statement (.car p) := fun _ => ⟨nofun, nofun⟩

theorem openRace (p : Form OpenFields) : Statement (.openRace p) := fun _ => ⟨nofun, nofun⟩

theorem formGrid (p : Form (List Nat)) : Statement (.formGrid p) := fun _ => ⟨nofun, nofun⟩

theorem abort (p : Form Unit) : Statement (.abort p) := fun _ => ⟨nofun, nofun⟩

theorem close (p : Form Unit) : Statement (.close p) := fun _ => ⟨nofun, nofun⟩

theorem askCar (p : Form CarName) : Statement (.askCar p) := fun _ => ⟨nofun, nofun⟩

theorem askOrder (p : Form Unit) : Statement (.askOrder p) := fun _ => ⟨nofun, nofun⟩

theorem askResults (p : Form Unit) : Statement (.askResults p) := fun _ => ⟨nofun, nofun⟩

theorem askStatus (p : Form Bool) : Statement (.askStatus p) := fun _ => ⟨nofun, nofun⟩

theorem timeForm (p : Form TimeValue) : Statement (.timeForm p) := fun _ => ⟨nofun, nofun⟩

theorem fetch (p : Form Unit) : Statement (.fetch p) := fun _ => ⟨nofun, nofun⟩

theorem unknownKind (frame : UnknownFrame) : Statement (.unknownKind frame) := fun _ => ⟨nofun, nofun⟩

theorem linkCheckError (kind : Byte) (payload : List Byte) (check : Byte) : Statement (.linkCheckError kind payload check) := fun _ => ⟨nofun, nofun⟩

theorem linkFramingFault (chars : List Byte) : Statement (.linkFramingFault chars) := fun _ => ⟨nofun, nofun⟩

theorem linkLengthError (length : Byte) : Statement (.linkLengthError length) := fun _ => ⟨nofun, nofun⟩

theorem linkStallTimeout (chars : List Byte) : Statement (.linkStallTimeout chars) := fun _ => ⟨nofun, nofun⟩

theorem replySent : Statement (.replySent) := fun _ => ⟨nofun, nofun⟩

theorem restartPerformed : Statement (.restartPerformed) := fun _ => ⟨nofun, nofun⟩

theorem powerOn (straps : Straps) : Statement (.powerOn straps) := fun _ => ⟨nofun, nofun⟩

theorem resetPin (straps : Straps) : Statement (.resetPin straps) := fun _ => ⟨nofun, nofun⟩

theorem frameStart (won : Bool) : Statement (.frameStart won) := fun _ => ⟨nofun, nofun⟩

theorem arbitrationLost : Statement (.arbitrationLost) := fun _ => ⟨nofun, nofun⟩

theorem mismatch : Statement (.mismatch) := fun _ => ⟨nofun, nofun⟩

theorem attemptEnd (acknowledged objected : Bool) : Statement (.attemptEnd acknowledged objected) := fun _ => ⟨nofun, nofun⟩

theorem lineIdle : Statement (.lineIdle) := fun _ => ⟨nofun, nofun⟩

theorem busStuck : Statement (.busStuck) := fun _ => ⟨nofun, nofun⟩

theorem busClear : Statement (.busClear) := fun _ => ⟨nofun, nofun⟩

theorem badFrame (fault : FrameFault) : Statement (.badFrame fault) := fun _ => ⟨nofun, nofun⟩

theorem beat (source : Nat) (b : BeatFields) : Statement (.beat source b) := by
  simp +contextual [Statement, Instr.WellFormed, Instr.wf, source?, raceNumber?, wfSource]

theorem verdict (source : Nat) (v : VerdictFields) : Statement (.verdict source v) := by
  intro h
  simp only [Instr.WellFormed, Instr.wf, wfSource, wfRace, wfVerdict, Bool.and_eq_true, decide_eq_true_eq] at h
  refine ⟨fun n hn => ?_, fun n hn => ?_⟩ <;> cases hn
  · omega
  · omega

theorem holdState (source raceNumber : Nat) (holding : Bool) : Statement (.holdState source raceNumber holding) := by
  intro h
  simp only [Instr.WellFormed, Instr.wf, wfSource, wfRace, Bool.and_eq_true, decide_eq_true_eq] at h
  refine ⟨fun n hn => ?_, fun n hn => ?_⟩ <;> cases hn
  · omega
  · omega

theorem raceSetup (source : Nat) (r : RaceSetupFields) : Statement (.raceSetup source r) := by
  intro h
  simp only [Instr.WellFormed, Instr.wf, wfSource, wfRace, wfRaceSetup, Bool.and_eq_true, decide_eq_true_eq] at h
  refine ⟨fun n hn => ?_, fun n hn => ?_⟩ <;> cases hn
  · omega
  · omega

theorem entries (source : Nat) (e : EntriesFields) : Statement (.entries source e) := by
  intro h
  simp only [Instr.WellFormed, Instr.wf, wfSource, wfRace, wfEntries, Bool.and_eq_true, decide_eq_true_eq] at h
  refine ⟨fun n hn => ?_, fun n hn => ?_⟩ <;> cases hn
  · omega
  · omega

theorem retire (source raceNumber station : Nat) (reason : RetireReason) : Statement (.retire source raceNumber station reason) := by
  intro h
  simp only [Instr.WellFormed, Instr.wf, wfSource, wfRace, Bool.and_eq_true, decide_eq_true_eq] at h
  refine ⟨fun n hn => ?_, fun n hn => ?_⟩ <;> cases hn
  · omega
  · omega

theorem results (source raceNumber : Nat) (list : List ResultEntry) : Statement (.results source raceNumber list) := by
  intro h
  simp only [Instr.WellFormed, Instr.wf, wfSource, wfRace, wfResults, Bool.and_eq_true, decide_eq_true_eq] at h
  refine ⟨fun n hn => ?_, fun n hn => ?_⟩ <;> cases hn
  · omega
  · omega

theorem controlAbort (source raceNumber : Nat) (reason : AbortReason) : Statement (.controlAbort source raceNumber reason) := by
  intro h
  simp only [Instr.WellFormed, Instr.wf, wfSource, wfRace, Bool.and_eq_true, decide_eq_true_eq] at h
  refine ⟨fun n hn => ?_, fun n hn => ?_⟩ <;> cases hn
  · omega
  · omega

theorem entryEnter (source raceNumber : Nat) (signature : Crc16) : Statement (.entryEnter source raceNumber signature) := by
  intro h
  simp only [Instr.WellFormed, Instr.wf, wfSource, wfRace, Bool.and_eq_true, decide_eq_true_eq] at h
  refine ⟨fun n hn => ?_, fun n hn => ?_⟩ <;> cases hn
  · omega
  · omega

theorem entryLeave (source raceNumber : Nat) : Statement (.entryLeave source raceNumber) := by
  intro h
  simp only [Instr.WellFormed, Instr.wf, wfSource, wfRace, Bool.and_eq_true, decide_eq_true_eq] at h
  refine ⟨fun n hn => ?_, fun n hn => ?_⟩ <;> cases hn
  · omega
  · omega

theorem report (source raceNumber : Nat) (r : Report) : Statement (.report source raceNumber r) := by
  intro h
  simp only [Instr.WellFormed, Instr.wf, wfSource, wfRace, Bool.and_eq_true, decide_eq_true_eq] at h
  refine ⟨fun n hn => ?_, fun n hn => ?_⟩ <;> cases hn
  · omega
  · omega

theorem announce (source : Nat) (a : AnnounceFields) : Statement (.announce source a) := by
  simp +contextual [Statement, Instr.WellFormed, Instr.wf, source?, raceNumber?, wfSource]

theorem claim (serial : Serial) (wanted : Nat) : Statement (.claim serial wanted) := fun _ => ⟨nofun, nofun⟩

theorem green : Statement (.green) := fun _ => ⟨nofun, nofun⟩

theorem lights : Statement (.lights) := fun _ => ⟨nofun, nofun⟩

theorem carSilent (station : Nat) : Statement (.carSilent station) := fun _ => ⟨nofun, nofun⟩

theorem retireLimit (station : Nat) : Statement (.retireLimit station) := fun _ => ⟨nofun, nofun⟩

theorem benchDeadline (station : Nat) : Statement (.benchDeadline station) := fun _ => ⟨nofun, nofun⟩

theorem entryWindow : Statement (.entryWindow) := fun _ => ⟨nofun, nofun⟩

theorem settleDue : Statement (.settleDue) := fun _ => ⟨nofun, nofun⟩

theorem graceDeadline : Statement (.graceDeadline) := fun _ => ⟨nofun, nofun⟩

theorem listenDeadline : Statement (.listenDeadline) := fun _ => ⟨nofun, nofun⟩

theorem claimRetry : Statement (.claimRetry) := fun _ => ⟨nofun, nofun⟩

theorem stationQuiet (station : Nat) : Statement (.stationQuiet station) := fun _ => ⟨nofun, nofun⟩

theorem stationRemoved (station : Nat) : Statement (.stationRemoved station) := fun _ => ⟨nofun, nofun⟩

theorem watchdogExpiry : Statement (.watchdogExpiry) := fun _ => ⟨nofun, nofun⟩

theorem beatTimer : Statement (.beatTimer) := fun _ => ⟨nofun, nofun⟩

theorem timeBaseTick : Statement (.timeBaseTick) := fun _ => ⟨nofun, nofun⟩

end Sys2Proof.Laws.FieldRange
end

