-- ==== Sys2Proof/Laws/Shared.lean ====
section
/-! SUPPORT. What the shared operations of the link, of reception and of sorting do, each said once. -/

namespace Sys2Proof.Machine

/-! ## Sorting by keys -/

/-- Inserting by key adds the element and keeps the others. -/
theorem insertByKey_perm {α} (key : α → List Int) (x : α) : ∀ l, (insertByKey key x l).Perm (x :: l) := by
  intro l; induction l with
  | nil => exact .refl _
  | cons y ys ih =>
    unfold insertByKey; split
    · exact (ih.cons y).trans (List.Perm.swap _ _ _)
    · exact .refl _

/-- Sorting by key keeps the elements. -/
theorem sortByKey_perm {α} (key : α → List Int) : ∀ l, (sortByKey key l).Perm l := by
  intro l; induction l with
  | nil => exact .refl _
  | cons y ys ih => exact (insertByKey_perm key y _).trans (ih.cons y)

/-- No key stands before itself. -/
theorem keyLt_irrefl : ∀ a, keyLt a a = false := by intro a; induction a <;> simp [keyLt, *]

/-- Of two keys at most one stands before the other. -/
theorem keyLt_asymm : ∀ a b, keyLt a b = true → keyLt b a = false := by
  intro a; induction a with
  | nil => intro b h; cases b <;> simp [keyLt] at *
  | cons x xs ih =>
    intro b h; cases b with
    | nil => simp [keyLt] at h
    | cons y ys =>
      simp only [keyLt] at *
      by_cases hxy : x = y
      · subst hxy; simp at *; exact ih _ h
      · simp [hxy, Ne.symm hxy] at *; omega

/-- Standing not after is transitive. -/
theorem keyLt_trans_neg : ∀ a b c, keyLt b a = false → keyLt c b = false → keyLt c a = false := by
  intro a; induction a with
  | nil => intro b c h1 h2; cases b <;> cases c <;> simp [keyLt] at *
  | cons x xs ih =>
    intro b c h1 h2
    cases b with
    | nil => simp [keyLt] at h1
    | cons y ys => cases c with
      | nil => simp [keyLt] at h2
      | cons z zs =>
        simp only [keyLt] at *
        by_cases hyx : y = x
        · subst hyx; simp at h1
          by_cases hzy : z = y
          · subst hzy; simp at *; exact ih _ _ h1 h2
          · simp [hzy] at *; exact h2
        · simp [hyx] at h1
          by_cases hzy : z = y
          · subst hzy; simp [hyx]; omega
          · simp [hzy] at h2
            have : z ≠ x := by omega
            simp [this]; omega

/-- Inserting by key keeps a sorted list sorted. -/
theorem insertByKey_sorted {α} (key : α → List Int) (x : α) :
    ∀ l, l.Pairwise (fun a b => keyLt (key b) (key a) = false) →
      (insertByKey key x l).Pairwise (fun a b => keyLt (key b) (key a) = false) := by
  intro l; induction l with
  | nil => intro _; simp [insertByKey]
  | cons y ys ih =>
    intro h
    have h' := List.pairwise_cons.mp h
    unfold insertByKey; split
    · rename_i hk
      rw [List.pairwise_cons]
      refine ⟨fun z hz => ?_, ih h'.2⟩
      rcases List.mem_cons.mp ((insertByKey_perm key x ys).mem_iff.mp hz) with rfl | h3
      · exact keyLt_asymm _ _ hk
      · exact h'.1 z h3
    · rename_i hk
      rw [List.pairwise_cons]
      refine ⟨fun z hz => ?_, h⟩
      have hxy : keyLt (key y) (key x) = false := by simpa using hk
      rcases List.mem_cons.mp hz with rfl | h3
      · exact hxy
      · exact keyLt_trans_neg _ _ _ hxy (h'.1 z h3)

/-- A list sorted by key is sorted. -/
theorem sortByKey_sorted {α} (key : α → List Int) :
    ∀ l, (sortByKey key l).Pairwise (fun a b => keyLt (key b) (key a) = false) := by
  intro l; induction l with
  | nil => exact List.Pairwise.nil
  | cons y ys ih => exact insertByKey_sorted _ _ _ ih

/-! ## Records -/

/-- A record is found under its own station, where each station has one record (R26). -/
theorem find_station (l : List CarRecord) (h : (l.map CarRecord.station).Nodup) (c : CarRecord) (hc : c ∈ l) :
    l.find? (·.station == c.station) = some c := by
  induction l with
  | nil => simp at hc
  | cons x xs ih =>
    simp at h
    rcases List.mem_cons.mp hc with rfl | h2
    · simp
    · have : x.station ≠ c.station := fun e => h.1 c h2 e.symm
      simp [List.find?_cons, this]; exact ih h.2 h2

/-! ## The Cabinet Link -/

/-- A host request arrives at the link, whichever it is (R183). -/
theorem exec_request (c : Instr) (r : Request) (s : State) (h : requestOf c = some r) :
    exec c s = .next (s.arrive r) := by
  cases c <;> simp [requestOf] at h <;> subst h <;> rfl

/-- The queue has room, whatever state the receiver is left in. -/
theorem withReceiver_room (s : State) (r : Receiver) (h : s.link.queue.length < 4) :
    (s.withReceiver r).queueFull = false := decide_eq_false (Nat.not_le.mpr h)

/-- Clearing the race is the quiet clearing, and LIGHTS with a count of 0 where the count was not 0 (R70, R96). -/
theorem clearRace_cases (s : State) :
    (s.race.lights = 0 ∧ s.clearRace = s.clearRaceQuietly) ∨
      (s.race.lights ≠ 0 ∧ s.clearRace = s.clearRaceQuietly.raise (.lights 0 none)) := by
  by_cases h : s.race.lights = 0
  · exact .inl ⟨h, by simp [State.clearRace, h]⟩
  · exact .inr ⟨h, by simp [State.clearRace, h]⟩

/-- The queue is full, whatever state the receiver is left in. -/
theorem withReceiver_full (s : State) (r : Receiver) (h : 4 ≤ s.link.queue.length) :
    (s.withReceiver r).queueFull = true := decide_eq_true h

/-- A request other than a RESTART whose payload has a form, at a link that is ready: it is taken at once, and its entry
joins the queue with the reply built (R184). -/
theorem arrive_ready (r : Request) (s : State) (h : s.link.Ready) (hb : requestBad r = false)
    (hr : isRestart r = false) :
    s.arrive r = ((takeRequest r (s.withReceiver .hunt)).2).enqueue
      ⟨some r, some (requestReply r (takeRequest r (s.withReceiver .hunt)).1), false, []⟩ := by
  obtain ⟨h0, h1, h2⟩ := h
  have h2' : (s.withReceiver .hunt).link.queue.any QueueEntry.waits = false := h2
  simp only [State.arrive, State.frameReceived, h0, if_true, State.arriveWhole, withReceiver_room s .hunt h1, hb, hr, h2',
    Bool.or_false]
  rfl

/-- A LINK ERROR joins a queue with room (R184, R185). -/
theorem linkError_room (s : State) (code : LinkErrorCode) (kind : Option Byte) (after : Receiver)
    (h : s.link.queue.length < 4) :
    s.linkError code kind after = { s with link := s.link.errored code kind after } := by
  simp only [State.linkError, withReceiver_room s after h]; rfl

/-- A LINK ERROR at a full queue is owed as an OVERRUN (R185). -/
theorem linkError_full (s : State) (code : LinkErrorCode) (kind : Option Byte) (after : Receiver)
    (h : 4 ≤ s.link.queue.length) :
    s.linkError code kind after = { s with link := ⟨after, 0, oweLast kind s.link.queue⟩ } := by
  simp only [State.linkError, withReceiver_full s after h]; rfl

/-- An OVERRUN is owed to the newest entry, up to 255 of them (R185). -/
theorem oweLast_append (kind : Option Byte) (l : List QueueEntry) (e : QueueEntry) :
    oweLast kind (l ++ [e]) = l ++ [if e.owed.length < 255 then { e with owed := e.owed ++ [kind] } else e] := by
  induction l with
  | nil => rfl
  | cons x xs ih =>
    cases xs with
    | nil => rfl
    | cons y ys => rw [List.cons_append, List.cons_append] at *; simp only [oweLast] at *; rw [ih]; rfl

/-- The receiver takes characters one after another (R179). -/
theorem feed_append (r : Receiver) (a b : List Byte) : r.feed (a ++ b) = (r.feed a).bind fun r => r.feed b := by
  induction a generalizing r with
  | nil => rfl
  | cons c cs ih => simp only [List.cons_append, Receiver.feed]; cases r.next c <;> simp [ih]

/-- Characters that end and break no frame only move the receiver (R179). -/
theorem receiveAll_feed (cs : List Byte) (s : State) (r : Receiver) (hc : cs ≠ []) (h : s.link.receiver.feed cs = some r) :
    s.receiveAll cs = s.withReceiver r := by
  induction cs generalizing s with
  | nil => exact absurd rfl hc
  | cons c cs ih =>
    simp only [Receiver.feed] at h
    cases hn : s.link.receiver.next c with
    | none => simp [hn] at h
    | some r' =>
      simp only [hn, Option.bind_some] at h
      have hs : s.receive c = s.withReceiver r' := by simp [State.receive, hn]
      show (s.receive c).receiveAll cs = _
      rw [hs]
      cases cs with
      | nil => simp only [Receiver.feed, Option.some.injEq] at h; subst h; rfl
      | cons d ds => rw [ih (s.withReceiver r') (by simp) h]; rfl

/-- Characters received in two goes (R179). -/
theorem receiveAll_append (a b : List Byte) (s : State) : s.receiveAll (a ++ b) = (s.receiveAll a).receiveAll b :=
  List.foldl_append ..

/-- The last character of a frame completes it with what the receiver has taken (R179). -/
theorem receive_check (s : State) (got : List Byte) (c : Byte) (h : s.link.receiver = .check got) :
    s.receive c = s.completeFrame got c := by
  simp [State.receive, h, Receiver.next]

/-- The return of a RESTART either performs the one at the head of the queue or, where none stands there, changes
nothing (R187, R199). -/
theorem finishRestart_cases (s : State) :
    (∃ e r, s.waitingRestart = some (e, r) ∧ s.finishRestart = s.performRestart e r s.link.queue.tail) ∨
      (s.waitingRestart = none ∧ s.finishRestart = s) := by
  unfold State.finishRestart
  cases h : s.waitingRestart with
  | none => exact .inr ⟨rfl, rfl⟩
  | some x => exact .inl ⟨x.1, x.2, rfl, rfl⟩

/-- An own frame is left behind in the given line state while the controller stays on the line (R144). -/
theorem land_stays (l : LineState) (s : State) (h : s.bus.leaving = .no) :
    s.land l = s.withBus { s.bus with line := l } := by
  simp [State.land, BusController.landed, h]

/-! ## Frames heard -/

/-- A good frame of a known LIVE station is delivered once the part has heard it (R153, R165). -/
theorem handOn_hears (src : Nat) (duplicate deliver : State → State) (s : State) (h : s.Hears src) :
    s.handOn src duplicate deliver = deliver (s.heard src) := by
  obtain ⟨h1, h2, h3⟩ := h
  have hn : (s.acknowledge false).dir.number ≠ some src := h2
  unfold State.handOn
  simp only [h1, if_true, if_neg hn]
  congr 1
  cases he : s.dir.entry? src with
  | none => simp [he] at h3
  | some e =>
    have hl : e.live = true := by simpa [he] using h3
    have he' : (s.acknowledge false).dir.entry? src = some e := he
    simp only [State.recordSource, he', hl, if_true, State.heard, he]
    cases e; cases hl; rfl

/-- A race-bound frame of the race held is delivered (R153). -/
theorem handRaceFrame_hears (src n : Nat) (deliver : State → State) (s : State) (h : s.Hears src)
    (hr : s.race.raceNumber = some n) : s.handRaceFrame src n deliver = deliver (s.heard src) := by
  have ho : (s.heard src).ofRace n = true := by
    show (s.race.raceNumber == some n) = true
    simp [hr]
  simp [State.handRaceFrame, State.handFrame, handOn_hears _ _ _ _ h, ho]

/-- A race-bound frame of another race goes no further (R153 step 2). -/
theorem handRaceFrame_other (src n : Nat) (deliver : State → State) (s : State) (h : s.Hears src)
    (hr : s.race.raceNumber ≠ some n) : s.handRaceFrame src n deliver = s.heard src := by
  have ho : (s.heard src).ofRace n = false := by
    show (s.race.raceNumber == some n) = false
    simpa using hr
  simp [State.handRaceFrame, State.handFrame, handOn_hears _ _ _ _ h, ho]

end Sys2Proof.Machine
end

