-- ==== Sys2Proof/Laws/Results.lean ====
section
/-! SUPPORT. What building the results list does, said once: the list built is the list of R114 and R115. -/

namespace Sys2Proof.Machine

/-- The sort key of the results list is the rank of R114. -/
theorem resultKey_rank (c : CarRecord) : resultKey c = c.resultRank := by
  unfold resultKey CarRecord.resultRank CarRecord.status CarRecord.slotStationKey progressKey slotKey
  cases c.p <;> cases c.slot <;> cases c.state <;> cases c.position <;> rfl

/-- A record is FINISHED in a results list when it is so and holds an official position (R115). -/
theorem status_finished_iff (c : CarRecord) :
    c.status = .finished ↔ c.state = .finished ∧ c.position.isSome = true := by
  unfold CarRecord.status; cases c.state <;> cases c.position <;> simp

/-- A built entry shows its record (R114, R115). -/
theorem resultEntry_shows (s : State) (c : CarRecord) : ResultEntry.Shows s.race.green c (s.resultEntry c) := by
  by_cases h : c.status = .finished
  · refine ⟨rfl, rfl, rfl, rfl, ?_⟩
    simp only [if_pos ((status_finished_iff c).mp h)]
    refine ⟨by simp [State.resultEntry, h], by simp [State.resultEntry, h], by simp [State.resultEntry, h],
      by simp [State.resultEntry, h], fun g tf hg ht _ => ?_⟩
    simp [State.resultEntry, h, ht, State.elapsedOf, hg, saturate, Config.timeCountMax]
  · refine ⟨rfl, rfl, rfl, rfl, ?_⟩
    simp only [if_neg (mt (status_finished_iff c).mpr h)]
    refine ⟨?_, by simp [State.resultEntry, h], by simp [State.resultEntry, h, Marks.clear], by simp [State.resultEntry, h]⟩
    show c.status = _
    unfold CarRecord.status at *
    cases hst : c.state <;> cases hp : c.position <;> simp_all

/-- The list built is the one of R114 and R115 for the records, entrants and green time held. -/
theorem buildResults_shows (s : State) :
    ResultsShow s.race.green s.cars s.race.entries s.buildResults.entries := by
  refine ⟨_, sortByKey_perm resultKey _, ?_, ?_⟩
  · have h := sortByKey_sorted resultKey (s.race.entries.filterMap fun e => s.car? e.station)
    simp only [resultKey_rank] at h
    exact h
  · exact List.forall₂_map_right_iff.mpr (List.forall₂_same.mpr fun c _ => resultEntry_shows s c)

/-- Taking its own status from a list leaves a record where it stands in the list's order (R32, R114). -/
theorem applyStatus_rank (c : CarRecord) : (applyStatus c.status c).resultRank = c.resultRank := by
  unfold applyStatus CarRecord.status CarRecord.resultRank CarRecord.withdrawFinish
  cases hs : c.state <;> cases hp : c.position <;> simp

/-- Taking its own status from a list leaves what an entry shows of a record (R32, R115). -/
theorem applyStatus_shows (green : Option Nat) (c : CarRecord) (e : ResultEntry)
    (h : ResultEntry.Shows green c e) : ResultEntry.Shows green (applyStatus c.status c) e := by
  unfold ResultEntry.Shows applyStatus CarRecord.status CarRecord.withdrawFinish at *
  cases hs : c.state <;> cases hp : c.position <;> simp_all

/-- Taking a status keeps the station. -/
@[simp] theorem applyStatus_station (x : ResultStatus) (c : CarRecord) : (applyStatus x c).station = c.station := by
  unfold applyStatus CarRecord.withdrawFinish
  cases x <;> simp
  split <;> rfl

/-- Handing a list over keeps the station of a record. -/
@[simp] theorem applyResults_station (es : List ResultEntry) (c : CarRecord) :
    (applyResults es c).station = c.station := by
  unfold applyResults; split <;> simp

/-- An entry that shows a record names its station and its status (R115). -/
theorem ResultEntry.Shows.status_eq {green : Option Nat} {c : CarRecord} {e : ResultEntry}
    (h : ResultEntry.Shows green c e) : e.status = c.status := by
  unfold ResultEntry.Shows CarRecord.status at *
  cases hs : c.state <;> cases hp : c.position <;> simp_all

/-- Handing the list to the Car Table leaves it the list of the records (R32, R116). -/
theorem handedResults_show {green : Option Nat} {cars : List CarRecord} {entrants : List Entry} {list : List ResultEntry}
    (h : ResultsShow green cars entrants list) :
    ResultsShow green (cars.map (applyResults list)) entrants list := by
  obtain ⟨rows, hp, hs, hf⟩ := h
  have hfind : ∀ st, (cars.map (applyResults list)).find? (fun c => c.station == st) =
      (cars.find? fun c => c.station == st).map (applyResults list) := by
    intro st; rw [List.find?_map]; congr 2; funext c; simp
  have hrow : ∀ c ∈ rows, cars.find? (fun x => x.station == c.station) = some c := by
    intro c hc
    obtain ⟨e, -, he⟩ := List.mem_filterMap.mp (hp.mem_iff.mp hc)
    have := List.find?_some he
    simp only [beq_iff_eq] at this
    rw [this]; exact he
  have happ : ∀ c ∈ rows, applyResults list c = applyStatus c.status c := by
    intro c hc
    unfold applyResults resultOf
    cases hx : list.find? fun e => e.station == c.station with
    | none =>
      obtain ⟨i, hi, hi'⟩ := List.getElem_of_mem hc
      have hl : i < list.length := hf.length_eq ▸ hi
      have hsh := hf.get hi hl
      have := List.find?_eq_none.mp hx _ (List.getElem_mem hl)
      simp only [List.get_eq_getElem, hi'] at hsh
      simp [hsh.1] at this
    | some e =>
      obtain ⟨i, hi, hi'⟩ := List.getElem_of_mem (List.mem_of_find?_eq_some hx)
      have hr : i < rows.length := hf.length_eq ▸ hi
      have hsh := hf.get hr hi
      simp only [List.get_eq_getElem, hi'] at hsh
      have hst := List.find?_some hx
      simp only [beq_iff_eq] at hst
      have hc' := hrow _ (List.getElem_mem hr)
      rw [← hsh.1, hst, hrow c hc] at hc'
      simp only [Option.some.injEq] at hc'
      show applyStatus e.status c = _
      rw [hsh.status_eq, ← hc']
  refine ⟨rows.map (applyResults list), ?_, ?_, ?_⟩
  · simp only [hfind]
    have := hp.map (applyResults list)
    rwa [List.map_filterMap] at this
  · rw [List.pairwise_map]
    refine hs.imp_of_mem fun {a b} ha hb hab => ?_
    rw [happ a ha, happ b hb, applyStatus_rank, applyStatus_rank]; exact hab
  · rw [List.forall₂_map_left_iff]
    rw [List.forall₂_iff_get] at hf ⊢
    refine ⟨hf.1, fun i h₁ h₂ => ?_⟩
    rw [happ _ (List.get_mem rows ⟨i, h₁⟩)]
    exact applyStatus_shows _ _ _ (hf.2 i h₁ h₂)

end Sys2Proof.Machine
end

