-- ==== Sys2Proof/Tests/Slice0.lean ====
section
/-! SUPPORT. Tests: expected values from the manual's worked sequences and tables (named in each comment) or worked out
by hand from its rules; an ill-formed term for each check of WellFormed; and for every obligation with hypotheses a state
that meets them. -/

namespace Sys2Proof.Tests

open Sys2Proof Sys2Proof.Machine

/-! The many small evaluations below run one after another, so that none waits in a thread of its own. -/

set_option Elab.async false

/-! ## Small states -/

/-- The state a command leads to. -/
def after (c : Instr) (s : State) : State :=
  match exec c s with
  | .next t => t
  | _ => s

/-- The track of the worked sequences. -/
def track0 : Track := ⟨7, 500000, 3, [0, 180000, 340000], 0#16⟩

/-- A directory entry heard 10,000 ago with unit 100. -/
def known (k : Nat) : DirEntry := ⟨k, none, true, 1999900, 100⟩

/-- A record in a state. -/
def rec' (k : Nat) (state : CarState) : CarRecord := { CarRecord.new k with state := state }

/-- Station 2 on an idle bus at 2,000,000, with stations 1 and 6 LIVE, in race 5. -/
def station (phase : Phase) (role : Role) (cars : List CarRecord) : State :=
  { State.reset with
    track := some track0
    cars := cars
    race := { RaceControl.initial with
      phase := phase, raceNumber := some 5, green := some 2000000, trackRef := some ⟨7, 0#16⟩ }
    clock := { RaceClock.initial with time := 2000000, role := role, watchdog := some 400 }
    dir := { Directory.initial 9#48 with
      numbering := .numbered, number := some 2, entries := [known 1, known 2, known 6] }
    bus := { BusController.initial with line := .idle } }

/-- The same at another local race time. -/
def atTime (t : Nat) (s : State) : State := { s with clock := { s.clock with time := t } }

/-- A plain report. -/
def rep (stamp d : Nat) (v : Int) : Report := ⟨stamp, d, v, 0, 0, []⟩

/-- The body of the last reply built. -/
def lastAnswer (s : State) : Option Reply := s.link.queue.getLast?.bind QueueEntry.reply

/-! ## WellFormed refuses each ill-formed operand -/

theorem smoke_setup_pin : (Instr.setup (.form ⟨256, 1, 100, 4, 2, []⟩)).wf = false := by decide
theorem smoke_track_start : (Instr.track (.form ⟨1, 500000, 1, [4294967296]⟩)).wf = false := by decide
theorem smoke_car_speed : (Instr.car (.form ⟨0, 32768, 0, 0, []⟩)).wf = false := by decide
theorem smoke_open_laps : (Instr.openRace (.form ⟨1, 0#16, some 255, none, none, none, none, none, none, none, none, none,
    none, none, none, none⟩)).wf = false := by decide
theorem smoke_formGrid_station : (Instr.formGrid (.form [255])).wf = false := by decide
theorem smoke_malformed_is_a_form : (Instr.fetch (.malformed [])).wf = false := by decide
theorem smoke_malformed_long : (Instr.fetch (.malformed (List.replicate 121 0#8))).wf = false := by decide +kernel
theorem smoke_askCar_number : (Instr.askCar (.form (.station 256))).wf = false := by decide
theorem smoke_timeForm_value : (Instr.timeForm (.form (.elapsed 4294967296))).wf = false := by decide
theorem smoke_unknownKind_known : (Instr.unknownKind ⟨0x40#8, []⟩).wf = false := by decide
theorem smoke_linkCheckError_right : (Instr.linkCheckError 0x40#8 [] 0x3E#8).wf = false := by decide +kernel
theorem smoke_linkFramingFault_long : (Instr.linkFramingFault (List.replicate 258 0#8)).wf = false := by decide +kernel
theorem smoke_linkLengthError_allowed : (Instr.linkLengthError 120#8).wf = false := by decide
theorem smoke_linkStallTimeout_long : (Instr.linkStallTimeout (List.replicate 258 0#8)).wf = false := by decide +kernel
theorem smoke_badFrame_good : (Instr.badFrame (.characters ((Frame.holdState 5 true).characters 3))).wf = false := by
  decide +kernel
theorem smoke_beat_source : (Instr.beat 8 ⟨0, .lobby, none, none, 0#8, 0⟩).wf = false := by decide
theorem smoke_beat_count : (Instr.beat 1 ⟨0, .lobby, none, none, 0#8, 255⟩).wf = false := by decide
theorem smoke_verdict_race : (Instr.verdict 1 ⟨0, 1, 1, 1, Marks.clear⟩).wf = false := by decide
theorem smoke_holdState_race : (Instr.holdState 1 256 true).wf = false := by decide
theorem smoke_raceSetup_race :
    (Instr.raceSetup 1 ⟨0, .entry, none, Config.defaultOptions, ⟨1, 0#16⟩⟩).wf = false := by decide
theorem smoke_entries_nine : (Instr.entries 1 ⟨5, .entry, none, List.replicate 9 ⟨1, none, .entered⟩⟩).wf = false := by
  decide
theorem smoke_retire_station : (Instr.retire 1 5 255 .silence).wf = false := by decide
theorem smoke_results_empty : (Instr.results 1 5 []).wf = false := by decide
theorem smoke_controlAbort_race : (Instr.controlAbort 1 0 .requested).wf = false := by decide
theorem smoke_entryEnter_race : (Instr.entryEnter 1 0 0#16).wf = false := by decide
theorem smoke_entryLeave_source : (Instr.entryLeave 8 5).wf = false := by decide
theorem smoke_report_extra : (Instr.report 1 5 ⟨0, 0, 0, 0, 0, List.replicate 17 0#8⟩).wf = false := by decide
theorem smoke_announce_label : (Instr.announce 1 ⟨0#48, true, true, List.replicate 9 0#8⟩).wf = false := by decide
theorem smoke_claim_wanted : (Instr.claim 0#48 255).wf = false := by decide
theorem smoke_carSilent_station : (Instr.carSilent 8).wf = false := by decide

/-! ## Checks and layouts (the worked check of 11, the arbitration characters of R204) -/

theorem test_fetch_frame : linkFrame 0x40#8 [] = [0x5A#8, 0x00#8, 0x40#8, 0x3E#8] := by decide +kernel
theorem test_hold_arbitration : ((Frame.holdState 5 true).characters 5).head? = some 0x54#8 := by decide
theorem test_claim_arbitration : ((Frame.claim 9#48 0).characters 0).head? = some 0xFC#8 := by decide
/-- R186: TRACK's reply is the result and the two bytes of the signature. -/
theorem test_track_reply : (Reply.answer 0x82#8 .done (.track 0x1234#16)).characters =
    [0x5A#8, 0x03#8, 0x82#8, 0x00#8, 0x12#8, 0x34#8, linkCheck 0x82#8 [0x00#8, 0x12#8, 0x34#8]] := by decide +kernel
/-- R202: unconfirmed is bit 2 of the marks. -/
theorem test_unconfirmed_bit : (orderLineBytes ⟨1, 6, some 1, .racing, 0, some 3, true, .absent, none, none,
    Marks.clear, none⟩).drop 7 = [4#8, 2#8, 0#8, 0#8, 0#8, 0#8, 0#8, 0#8, 0#8, 0#8, 0#8, 0xFF#8, 0#8, 0xFF#8, 0xFF#8, 0xFF#8,
      0xFF#8, 0xFF#8, 0xFF#8] := by decide
/-- R185, R186: the reply of an owed unit is a LINK ERROR with the code OVERRUN and the kind byte received. -/
theorem test_overrun_reply :
    let s := { State.reset with link := ⟨.hunt, 0, [⟨none, some (.linkError .check none), true, [some 0x40#8]⟩]⟩ }
    s.link.sending.map Reply.characters = some [0x5A#8, 0x02#8, 0xFF#8, 0x04#8, 0x40#8, linkCheck 0xFF#8 [0x04#8, 0x40#8]] := by
  decide +kernel
/-- R205: five zero bytes stand beside an absent tf elapsed. -/
theorem test_absent_form : formOption none = [0#8, 0#8, 0#8, 0#8, 0#8] := rfl
/-- R202: 0xFF in a station number, which may not be absent, is no form. -/
theorem test_absent_station : readRequest 0x21#8 [1#8, 0xFF#8] = some (.formGrid (.malformed [1#8, 0xFF#8])) := by decide
theorem test_no_word_is_a_command : decodeTableWord 16 0x40 = none := by decide

/-! ## The requests -/

/-- R188: a pin code of 9 is refused, and a beat period of 10 is stored as 20. -/
theorem test_setup_bad_pin :
    lastAnswer (after (.setup (.form ⟨9, 1, 100, 4, 2, []⟩)) State.reset) = some (.answer 0x81#8 .badValue .empty) := by
  decide
theorem test_setup_clamps :
    (after (.setup (.form ⟨3, 0, 10, 4, 2, []⟩)) State.reset).clock.beatPeriod = 20 ∧
      (after (.setup (.form ⟨3, 0, 10, 4, 2, []⟩)) State.reset).clock.role = .ineligible := by decide

/-- R2: a second start not above the first is BAD VALUE and loads nothing. -/
theorem test_track_loads :
    (after (.track (.form ⟨7, 500000, 3, [0, 180000, 340000]⟩)) State.reset).track.map Track.L = some 500000 := by
  decide +kernel
theorem test_track_bad_start :
    (after (.track (.form ⟨7, 500000, 3, [0, 340000, 340000]⟩)) State.reset).track = none := by decide

/-- R164: 8 beat periods of 100 from local race time 0. -/
theorem test_attach_listens :
    (after (.attach (.form ())) State.reset).dir.listenDeadline = some 800 ∧
      (after (.attach (.form ())) State.reset).race.phase = .claiming := by decide
theorem test_detach_empties :
    (after (.detach (.form ())) (station .racing .acting [rec' 2 .racing])).dir.entries = [] ∧
      (after (.detach (.form ())) (station .racing .acting [rec' 2 .racing])).notices.list.length = 3 := by decide

/-- R187: a RESTART is queued untaken; a request behind it waits. -/
theorem test_restart_queued : lastAnswer (after (.restart (.form ())) State.reset) = none := by decide
theorem test_request_waits :
    (after (.fetch (.form ())) (after (.restart (.form ())) State.reset)).link.queue.map QueueEntry.waits =
      [true, true] := by decide

/-- R81, R82: the referee appends itself. -/
theorem test_enter_own_list :
    (after (.enter (.form ())) (station .entry .acting [rec' 2 .idle])).race.entries = [⟨2, none, .entered⟩] := by decide
theorem test_enter_follower_sends :
    (after (.enter (.form ())) (station .entry .follower [rec' 2 .idle])).bus.outbound.entry.held =
      some ⟨.enter 5 0#16, 0⟩ := by decide

/-- R86: a car that is IDLE may not leave. -/
theorem test_leave_refused :
    lastAnswer (after (.leave (.form ())) (station .entry .follower [rec' 2 .idle])) =
      some (.answer 0x91#8 .refusedState .empty) := by decide
theorem test_leave_sends :
    (after (.leave (.form ())) (station .entry .follower [rec' 2 .entered])).bus.outbound.entry.held =
      some ⟨.leave 5, 0⟩ := by decide

/-- R89: HOLD is TOO LATE from one light interval before G on. -/
theorem test_ready_sends :
    (after (.ready (.form ())) (station .grid .follower [rec' 2 .gridded])).bus.outbound.holdState.held =
      some ⟨.holdState 5 false, 0⟩ := by decide
theorem test_hold_too_late :
    lastAnswer (after (.hold (.form ())) (atTime 1990000 (station .countdown .follower [rec' 2 .gridded]))) =
      some (.answer 0x93#8 .tooLate .empty) := by decide
theorem test_hold_in_time :
    (after (.hold (.form ())) (atTime 1989999 (station .countdown .follower [rec' 2 .gridded]))).race.holdAsked = true := by
  decide

/-- R34: a distance at L becomes L − 1, a speed above 20,000 becomes 20,000. -/
theorem test_car_clamps :
    (after (.car (.form ⟨500000, 20001, 0, 0, []⟩)) (station .entry .follower [rec' 2 .entered])).bus.outbound.report.held =
      some ⟨.report 5 (rep 2000000 499999 20000), 0⟩ := by decide
theorem test_car_refused_unnumbered :
    lastAnswer (after (.car (.form ⟨0, 0, 0, 0, []⟩)) State.reset) = some (.answer 0x94#8 .refusedState .empty) := by
  decide

/-- R71, R79: 255 is followed by 1, and laps 0 is taken as 1. -/
theorem test_open_wraps :
    let s := station .results .acting [rec' 2 .finished]
    let t := after (.openRace (.form ⟨7, 0#16, some 0, none, none, none, none, none, none, none, none, none, none, none,
      none, none⟩)) { s with race := { s.race with raceNumber := some 255 } }
    t.race.raceNumber = some 1 ∧ t.race.options.laps = 1 ∧ t.race.phase = .entry ∧
      lastAnswer t = some (.answer 0xA0#8 .adjusted (.openRace 1)) := by decide
theorem test_open_role :
    lastAnswer (after (.openRace (.form ⟨7, 0#16, none, none, none, none, none, none, none, none, none, none, none, none,
      none, none⟩)) (station .lobby .follower [])) = some (.answer 0xA0#8 .refusedRole .empty) := by decide

/-- Three entrants, as in the worked sequence of holds and a bench (04). -/
def entry3 : State :=
  let s := station .entry .acting [rec' 1 .entered, rec' 2 .entered, rec' 6 .entered]
  { s with race := { s.race with
    green := none, entries := [⟨2, none, .entered⟩, ⟨6, none, .entered⟩, ⟨1, none, .entered⟩], entryDeadline := some 2000000 } }

/-- R85: 6 first, then the others by station number. -/
theorem test_formGrid_order :
    (after (.formGrid (.form [6, 6])) entry3).race.entries =
      [⟨6, some 1, .gridded⟩, ⟨1, some 2, .gridded⟩, ⟨2, some 3, .gridded⟩] := by decide
theorem test_formGrid_holds : (after (.formGrid (.form [])) entry3).race.holdSet = 0b01000110#8 := by decide
theorem test_abort_clears :
    (after (.abort (.form ())) entry3).race.entries = [] ∧
      (after (.abort (.form ())) entry3).bus.outbound.control = [⟨.abort 5 .requested, 0⟩] := by decide
theorem test_close_reason :
    (after (.close (.form ())) (station .results .acting [rec' 2 .finished])).notices.list =
      [⟨2000000, .phase .lobby .results (some 5) (some .closed)⟩] := by decide
/-- R96: the lights that go out as the race is cleared are told, before PHASE (log 21). -/
theorem test_close_lights :
    let s := station .results .acting []
    (after (.close (.form ())) { s with race := { s.race with lights := 5 } }).notices.list =
      [⟨2000000, .lights 0 none⟩, ⟨2000000, .phase .lobby .results (some 5) (some .closed)⟩] := by decide
theorem test_askCar_missing :
    lastAnswer (after (.askCar (.form (.slot 8))) entry3) = some (.answer 0xB0#8 .noSuchCar .empty) ∧
      lastAnswer (after (.askCar (.form (.station 8))) entry3) = some (.answer 0xB0#8 .badValue .empty) := by decide
theorem test_askOrder_time :
    (match lastAnswer (after (.askOrder (.form ())) entry3) with
      | some (.answer k .done (.askOrder r)) => some (k, r.time, r.cars.length)
      | _ => none) = some (0xB1#8, 2000000, 0) := by decide
theorem test_askResults_none :
    (match lastAnswer (after (.askResults (.form ())) entry3) with
      | some (.answer k .done (.askResults r)) => some (k, r.list.isSome)
      | _ => none) = some (0xB2#8, false) := by decide
theorem test_askStatus_clears :
    let s := { entry3 with bus := { entry3.bus with receiveErrors := 3, droppedReports := 4, superseded := 5 } }
    (after (.askStatus (.form true)) s).bus = { s.bus with receiveErrors := 0, droppedReports := 0 } := by decide

/-- The table of R120 and the examples of R121. -/
theorem test_timeForm_elapsed :
    lastAnswer (after (.timeForm (.form (.elapsed 1134625))) State.reset) =
      some (.answer 0xB4#8 .done (.timeForm false ⟨1, 53, 462, false⟩)) := by decide
theorem test_timeForm_gap :
    lastAnswer (after (.timeForm (.form (.gap (-1830)))) State.reset) =
      some (.answer 0xB4#8 .done (.timeForm true ⟨0, 0, 183, false⟩)) := by decide

/-- The worked sequence of a full queue (10): 32 waiting and 2 dropped leave 24 and OVERFLOW. -/
theorem test_fetch_overflow :
    let s := { State.reset with notices := ⟨List.replicate 32 ⟨1, .go none⟩, 2⟩ }
    (after (.fetch (.form ())) s).notices.list.length = 25 ∧ (after (.fetch (.form ())) s).notices.dropped = 0 ∧
      (after (.fetch (.form ())) s).notices.list.getLast? = some ⟨0, .overflow 2⟩ := by decide +kernel

/-! ## The link (the worked sequence of a noisy burst, 09) -/

theorem test_unknownKind : lastAnswer (after (.unknownKind ⟨0x7F#8, [1#8]⟩) State.reset) = some (.linkError .unknownKind (some 0x7F#8)) := by
  decide
theorem test_linkCheckError :
    lastAnswer (after (.linkCheckError 0x14#8 [] 0#8) State.reset) = some (.linkError .check (some 0x14#8)) := by
  decide +kernel
theorem test_linkFramingFault_no_kind :
    lastAnswer (after (.linkFramingFault [0x5A#8, 0x02#8]) State.reset) = some (.linkError .check none) := by decide
theorem test_linkFramingFault_hunt : (after (.linkFramingFault [0x00#8]) State.reset).link.queue = [] := by decide
theorem test_linkLengthError :
    (after (.linkLengthError 150#8) State.reset).link.receiver = .skip 152 ∧
      lastAnswer (after (.linkLengthError 150#8) State.reset) = some (.linkError .length none) := by decide
/-- R180: the four characters of a FETCH are swallowed while ten are left to skip. -/
theorem test_skip_swallows :
    (after (.fetch (.form ())) { State.reset with link := ⟨.skip 10, 0, []⟩ }).link = ⟨.skip 6, 0, []⟩ := by decide +kernel
theorem test_linkStallTimeout :
    lastAnswer (after (.linkStallTimeout [0x5A#8]) State.reset) = some (.linkError .timeout none) := by decide
theorem test_replySent_owed :
    let s := { State.reset with link := ⟨.hunt, 0, [⟨none, some (.linkError .check none), false, [none]⟩]⟩ }
    (after .replySent s).link.queue.map QueueEntry.sent = [true] ∧
      (after .replySent (after .replySent s)).link.queue = [] := by decide
theorem test_restartPerformed :
    let t := after .restartPerformed (after (.restart (.form ())) (station .racing .acting [rec' 2 .racing]))
    t.cars = [] ∧ t.track = some track0 ∧ t.clock.time = 0 ∧ t.notices.list = [⟨0, .phase .detached .racing none none⟩] ∧
      lastAnswer t = some (.answer 0x85#8 .done .empty) := by decide
theorem test_powerOn : (after (.powerOn ⟨true, false, true⟩) entry3).track = none ∧
    (after (.powerOn ⟨true, false, true⟩) entry3).straps = ⟨true, false, true⟩ := by decide
theorem test_resetPin : (after (.resetPin ⟨false, true, false⟩) entry3).dir.numbering = .detached ∧
    (after (.resetPin ⟨false, true, false⟩) entry3).clock.time = 0 := by decide

/-! ## The bus -/

/-- A frame waiting in each of three classes: the lowest class goes first (R148). -/
def sending : State :=
  let s := station .racing .follower [rec' 2 .racing]
  { s with bus := { s.bus with outbound := { Outbound.empty with
    verdict := [⟨.verdict ⟨5, 1, 1, 2000000, Marks.clear⟩, 7⟩], report := ⟨some ⟨.report 5 (rep 1 2 3), 0⟩, none⟩ } } }

theorem test_frameStart_class :
    (after (.frameStart true) sending).bus.inFlight.map Flight.kind = some .verdict ∧
      (after (.frameStart true) sending).bus.line = .sending := by decide
theorem test_arbitrationLost :
    (after .arbitrationLost (after (.frameStart false) sending)).bus.line = .receiving ∧
      (after .arbitrationLost (after (.frameStart false) sending)).bus.outbound = sending.bus.outbound := by decide
/-- The eighth attempt of a VERDICT ends in TX FAILED (R158, R160). -/
theorem test_attemptEnd_gives_up :
    (after (.attemptEnd false false) (after (.frameStart true) sending)).notices.list =
      [⟨2000000, .txFailed .verdict none 5 8 .unheard⟩] := by decide
theorem test_mismatch_announces :
    (after .mismatch (after (.frameStart true) sending)).bus.outbound.announce.held.isSome = true := by decide
/-- R147: a CLAIM bears station bits 7, any other frame this station's number. -/
theorem test_frameStart_source :
    (after (.frameStart true) sending).bus.inFlight.map Flight.source = some 2 := by decide
/-- R199, R162: a RESTART lets the frame on the line complete, then returns. -/
theorem test_restart_waits :
    let s := after .restartPerformed (after (.restart (.form ())) (after (.frameStart true) sending))
    s.bus.line = .sending ∧ s.dir.numbering = .numbered ∧ (after (.attemptEnd true false) s).bus.line = .off ∧
      (after (.attemptEnd true false) s).dir.numbering = .detached := by decide
theorem test_lineIdle : (after .lineIdle { sending with bus := { sending.bus with line := .busy } }).bus.line = .idle := by
  decide
/-- The worked sequence of a stuck line (07): the frame in SENDING counts an attempt and is named. -/
theorem test_busStuck :
    (after .busStuck (after (.frameStart true) { sending with bus := { sending.bus with
      outbound := { sending.bus.outbound with verdict := [] } } })).notices.list =
        [⟨2000000, .busStuck (some .report) none⟩] := by decide
theorem test_busClear :
    (after .busClear { sending with bus := { sending.bus with line := .stuck, stuckTicks := 37 } }).notices.list =
      [⟨2000000, .busClear 37⟩] := by decide
theorem test_badFrame_counts :
    (after (.badFrame .stopBitDominant) { sending with bus := { sending.bus with receiveErrors := 255 } }).bus.receiveErrors =
      255 := by decide

/-! ## The frames -/

/-- The worked sequence of a follower's clock (06): behind 300, and ahead 3. -/
theorem test_beat_behind :
    (after (.beat 1 ⟨1999698, .lobby, some 5, none, 0#8, 0⟩) (station .lobby .follower [])).clock.holdOff = 300 := by decide
/-- Also a step far past the listen deadline of a station pinned to 4: it is NUMBERED, then the stations it knows turn QUIET
at 8 units and only then go at 200 (R126, R166). -/
theorem test_beat_ahead :
    let s := station .claiming .follower []
    let s := { s with dir := { s.dir with
      numbering := .listening, number := none, pin := some 4, listenDeadline := some 2000500 } }
    let events := (after (.beat 1 ⟨2100000, .lobby, none, none, 0#8, 0⟩) s).notices.list.filterMap fun n =>
      match n.body with
      | .station e k _ _ => some (e, k)
      | _ => none
    (after (.beat 1 ⟨2000001, .lobby, some 5, none, 0#8, 0⟩) (station .lobby .follower [])).clock.time = 2000003 ∧
      events = [(.numbered, 4), (.quiet, 2), (.quiet, 6), (.quiet, 1), (.removed, 2), (.removed, 6), (.removed, 1)] := by
  decide +kernel
/-- Station 1 is FINISHED first; the follower moves to FINISHING (05). -/
theorem test_verdict :
    let t := after (.verdict 1 ⟨5, 6, 1, 2000100, Marks.clear⟩) (station .racing .follower [rec' 6 .racing])
    t.race.phase = .finishing ∧ (t.car? 6).bind CarRecord.position = some 1 ∧ t.finish.verdictCount = 1 := by decide
theorem test_verdict_conflict :
    let t := after (.verdict 1 ⟨5, 6, 1, 2000100, Marks.clear⟩) (station .finishing .follower
      [{ rec' 1 .finished with position := some 1, officialTf := some 2000200 }, rec' 6 .racing])
    (t.car? 1).map (fun c => (c.position, c.provisionalTf)) = some (none, some 2000200) := by decide

/-- The grid of entry3, all three holding since 2,000,000. -/
def grid3 : State := after (.formGrid (.form [])) entry3

/-- R90 to R92: the last release starts the countdown with G five intervals on. -/
theorem test_holdState_last :
    let s := after .lineIdle (after (.holdState 1 5 false) grid3)
    let s := after .lineIdle (after (.holdState 6 5 false) s)
    let s := after (.ready (.form ())) s
    s.race.phase = .countdown ∧ s.race.green = some 2050000 ∧ s.race.lights = 1 := by decide +kernel
theorem test_benchDeadline :
    let t := after (.benchDeadline 6) (atTime 2200000 grid3)
    (t.car? 6).map CarRecord.state = some .benched ∧ t.race.phase = .grid ∧
      (after (.benchDeadline 6) (atTime 2199999 grid3)).race = grid3.race := by decide +kernel
theorem test_raceSetup_green :
    let t := after (.raceSetup 1 ⟨5, .racing, some 1999000, Config.defaultOptions, ⟨7, 0#16⟩⟩)
      (station .countdown .follower [{ rec' 6 .gridded with report := some (rep 1998000 499500 0) }])
    (t.car? 6).bind CarRecord.p = some (-500) ∧ t.race.green = some 1999000 := by decide
theorem test_raceSetup_new_race :
    (after (.raceSetup 1 ⟨6, .entry, none, Config.defaultOptions, ⟨7, 0#16⟩⟩)
      (station .results .follower [rec' 6 .finished])).cars = [rec' 6 .idle] := by decide
/-- R28: listed GRIDDED in GRID, and an unlisted car back to IDLE. -/
theorem test_entries :
    (after (.entries 1 ⟨5, .grid, none, [⟨6, some 1, .gridded⟩]⟩)
      (station .grid .follower [rec' 2 .entered, rec' 6 .entered])).cars.map (fun c => (c.station, c.state, c.slot)) =
        [(2, .idle, none), (6, .gridded, some 1)] := by decide
theorem test_retire :
    ((after (.retire 1 5 6 .withdrawn) (station .racing .follower [rec' 6 .racing])).car? 6).bind CarRecord.retireReason =
      some .withdrawn := by decide
theorem test_results :
    let t := after (.results 1 5 [⟨some 1, 6, some 2, .finished, some 1134625, none, 3, Marks.clear⟩])
      (station .finishing .follower [rec' 6 .racing])
    t.race.phase = .results ∧ (t.car? 6).bind CarRecord.officialTf = some 3134625 := by decide
theorem test_controlAbort :
    (after (.controlAbort 1 5 .abandoned) (station .grid .follower [rec' 6 .gridded])).notices.list =
      [⟨2000000, .phase .lobby .grid (some 5) (some .abandoned)⟩] := by decide
theorem test_entryEnter_signature :
    (after (.entryEnter 6 5 1#16) entry3).race.lastRefusal = none ∧
      (after (.entryEnter 6 5 1#16) { entry3 with race := { entry3.race with entries := [] } }).race.lastRefusal =
        some ⟨6, .trackMismatch⟩ := by decide
theorem test_entryLeave :
    (after (.entryLeave 6 5) entry3).race.entries = [⟨2, none, .entered⟩, ⟨1, none, .entered⟩] := by decide

/-- Car 2 of the worked sequence from the grid to the first sector (01), seen on this station as car 6. -/
def sector1 : State := station .racing .follower
  [{ rec' 6 .racing with p := some 179500, pmax := some 179500, report := some (rep 2063000 179500 4500) }]

theorem test_report_sector :
    ((after (.report 6 5 (rep 2063167 180250 4510)) (atTime 2063167 sector1)).car? 6).map
      (fun c => (c.p, c.crossed)) = some (some 180250, some ⟨1, 2063111, false⟩) := by decide +kernel
/-- The finish of the worked sequence of three laps (01): tf 3,134,625 and a last lap of 376,725. -/
theorem test_report_finish :
    let s := station .racing .follower [{ rec' 6 .racing with
      p := some 1499700, pmax := some 1499700, report := some (rep 3134500 499700 4500), laps := 2
      lineTime := some 2757900, bestLap := some 376200 }]
    ((after (.report 6 5 (rep 3134667 100 4510)) (atTime 3134667 s)).car? 6).map
      (fun c => (c.state, c.provisionalTf, c.lastLap, c.bestLap)) =
        some (.finished, some 3134625, some 376725, some 376200) := by decide +kernel
theorem test_announce_completes :
    ((after (.announce 6 ⟨77#48, true, false, []⟩) sector1).dir.entry? 6).bind DirEntry.info =
      some ⟨77#48, true, false, []⟩ := by decide
theorem test_claim_objected :
    (after (.claim 5#48 2) sector1).bus.objected = true ∧ (after (.claim 5#48 1) sector1).bus.objected = false := by decide

/-! ## Time -/

theorem test_green :
    let t := after .green (station .countdown .follower [rec' 6 .gridded])
    t.race.phase = .racing ∧ t.race.lights = 5 ∧ t.notices.list.getLast? = some ⟨2000000, .go (some 2000000)⟩ := by decide
/-- R96: the last light comes on one interval before G. -/
theorem test_lights :
    (after .lights (atTime 1990000 (station .countdown .follower []))).race.lights = 5 ∧
      (after .lights (atTime 1989999 (station .countdown .follower []))).race.lights = 4 := by decide
/-- The worked sequence of a silent car (02): at the limit it is still RACING. -/
theorem test_carSilent :
    ((after (.carSilent 6) (atTime 2065000 sector1)).car? 6).map CarRecord.state = some .racing ∧
      ((after (.carSilent 6) (atTime 2065001 sector1)).car? 6).map CarRecord.state = some .silent := by decide
theorem test_retireLimit :
    let s := { sector1 with clock := { sector1.clock with role := .acting, time := 2113001 } }
    ((after (.retireLimit 6) s).car? 6).map CarRecord.retireReason = some (some .silence) := by decide +kernel
theorem test_entryWindow : (after .entryWindow entry3).race.phase = .grid ∧
    (after .entryWindow (atTime 1999999 entry3)).race.phase = .entry := by decide +kernel

/-- Stations 6 and 1 have crossed the finish at one tf, and wait to be judged (the dead heat of 05). -/
def judging : State :=
  let s := station .racing .acting [{ rec' 1 .finished with slot := some 1 }, { rec' 6 .finished with slot := some 3 }]
  { s with
    race := { s.race with entries := [⟨1, some 1, .gridded⟩, ⟨6, some 3, .gridded⟩, ⟨2, some 2, .benched⟩] }
    finish := ⟨0, [⟨1, 2000000, some 1, false⟩, ⟨6, 2000000, some 3, false⟩], none⟩ }

theorem test_settleDue_dead_heat :
    let t := after .settleDue (atTime 2001000 judging)
    t.cars.map (fun c => (c.station, c.position, c.marks.deadHeat)) = [(1, some 1, true), (6, some 2, true)] ∧
      t.race.phase = .results ∧ (after .settleDue (atTime 2000999 judging)).cars = judging.cars := by decide +kernel
theorem test_graceDeadline :
    let s := { judging with race := { judging.race with phase := .finishing, graceDeadline := some 2000000 } }
    (after .graceDeadline s).race.phase = .results ∧ (after .graceDeadline s).finish.verdictCount = 2 := by decide +kernel
/-- R114 and R115 on the referee's own list: positions first, then those not classified by progress, RETIRED, and BENCHED
last. -/
theorem test_graceDeadline_results :
    let s := station .finishing .acting [{ rec' 1 .racing with p := some 100 }, { rec' 2 .racing with p := some 200 },
      { rec' 3 .retired with p := some 900 }, rec' 4 .benched,
      { rec' 6 .finished with position := some 1, officialTf := some 2001500 }]
    let s := { s with race := { s.race with
      graceDeadline := some 2000000
      entries := [⟨4, some 5, .benched⟩, ⟨3, some 4, .gridded⟩, ⟨6, some 3, .gridded⟩, ⟨2, some 2, .gridded⟩,
        ⟨1, some 1, .gridded⟩] } }
    (after .graceDeadline s).finish.results.map (fun l => l.entries.map fun e => (e.station, e.status, e.tfElapsed)) =
      some [(6, .finished, some 1500), (2, .notClassified, none), (1, .notClassified, none), (3, .retired, none),
        (4, .benched, none)] := by decide +kernel
/-- The worked sequence of a cabinet that joins (08): unpinned, it claims the lowest number no entry holds. -/
theorem test_listenDeadline :
    let s := station .claiming .follower []
    let s := { s with dir := { s.dir with
      numbering := .listening, number := none, listenDeadline := some 2000000, entries := [{ known 0 with number := 0 }] } }
    (after .listenDeadline s).dir.wanted = some 1 ∧ (after .listenDeadline s).dir.numbering = .claiming := by decide
theorem test_claimRetry :
    let s := station .claiming .follower []
    let s := { s with dir := { s.dir with
      numbering := .claiming, number := none, claimRetry := some 2000000, taken := 0xFF#8, entries := [] } }
    (after .claimRetry s).bus.outbound.claim.held = some ⟨.claim 9#48 0, 0⟩ ∧ (after .claimRetry s).dir.taken = 0#8 := by
  decide
theorem test_stationQuiet :
    ((after (.stationQuiet 1) (atTime 2000700 sector1)).dir.entry? 1).map DirEntry.live = some false ∧
      ((after (.stationQuiet 1) (atTime 2000699 sector1)).dir.entry? 1).map DirEntry.live = some true := by decide
theorem test_stationRemoved :
    (after (.stationRemoved 1) (atTime 2019900 (station .lobby .follower [rec' 1 .idle]))).cars = [] ∧
      (after (.stationRemoved 1) (atTime 2019900 sector1)).dir = sector1.dir := by decide
/-- The worked sequence of a vanished referee (06): wait for the lowest LIVE station that is not the referee. -/
theorem test_watchdogExpiry :
    let s := { sector1 with clock := { sector1.clock with watchdog := some 0, referee := some 1 } }
    (after .watchdogExpiry s).clock.role = .acting ∧
      (after .watchdogExpiry { s with clock := { s.clock with referee := none } }).clock.candidate = some 1 := by
  decide +kernel
theorem test_beatTimer :
    let s := { sector1 with clock := { sector1.clock with role := .acting, beatTimer := some 0 } }
    (after .beatTimer s).clock.beatTimer = some 100 ∧ (after .beatTimer s).bus.outbound.beat.held = some ⟨.beat none, 0⟩ := by
  decide
theorem test_tick_holdOff :
    let s := { sector1 with clock := { sector1.clock with holdOff := 1 } }
    (after .timeBaseTick s).clock.time = 2000000 ∧
      (after .timeBaseTick (after .timeBaseTick s)).clock.time = 2000001 := by decide

/-- A step takes the front command and leaves the rest. -/
theorem test_step :
    step { sector1 with pending := [.timeBaseTick, .lineIdle] } = exec .timeBaseTick { sector1 with pending := [.lineIdle] } :=
  rfl

/-! ## The hypotheses of the obligations are met

One theorem for each obligation with hypotheses, named after it, with concrete states and operands for each clause,
boundary values first. -/

/-- A state with another race. -/
def inRace (f : RaceControl → RaceControl) (s : State) : State := { s with race := f s.race }
/-- A state with another clock. -/
def inClock (f : RaceClock → RaceClock) (s : State) : State := { s with clock := f s.clock }
/-- A state with another directory. -/
def inDir (f : Directory → Directory) (s : State) : State := { s with dir := f s.dir }
/-- A state with another bus controller. -/
def inBus (f : BusController → BusController) (s : State) : State := { s with bus := f s.bus }
/-- A state with another link. -/
def inLink (l : CabinetLink) (s : State) : State := { s with link := l }
/-- Whether an entrant keeps the race open, in the terms of R100. -/
def running (x : State) (e : Entry) : Bool := decide (e.state ≠ .benched) && (x.car? e.station).any fun c =>
  decide (c.state ≠ .retired) && !(decide (c.state = .finished) && c.position.isSome)
/-- A station after a known LIVE one was heard, its clock at a target it has followed. -/
def followed (src t : Nat) (s : State) : State :=
  { s.heard src with clock := { s.clock with time := t, holdOff := 0, conflict := false } }
/-- Commands waiting. -/
def waiting (cs : List Instr) (s : State) : State := { s with pending := cs }

/-- A queue entry whose request has been answered. -/
def answered : QueueEntry := ⟨some (.fetch (.form ())), some (.answer 0xC0#8 .done .empty), false, []⟩
/-- A RESTART not yet performed. -/
def restarting : QueueEntry := ⟨some (.restart (.form ())), none, false, []⟩

theorem witness_StepTakesTheFront :
    (waiting [.timeBaseTick, .lineIdle] sector1).pending = .timeBaseTick :: [.lineIdle] ∧ sector1.pending = [] := ⟨rfl, rfl⟩

/-- 32 notices, 255 dropped: a step that raises one more. -/
theorem witness_QueuesAndCountsStayWithinTheirLimits :
    let s := waiting [.busClear] { inBus (fun b => { b with line := .stuck }) sector1 with
      notices := ⟨⟨1, .order none none⟩ :: List.replicate 31 ⟨1, .go none⟩, 255⟩ }
    s.notices.Ok ∧ ∃ t, step s = .next t :=
  ⟨by unfold NoticeQueue.Ok; decide, _, rfl⟩

/-- In NUMBERED and ACTING, in CONFLICT with the disputed number held, and in DETACHED. -/
theorem witness_PhaseNumberAndRoleStayInStep :
    let a := waiting [.detach (.form ())] (station .racing .acting [])
    let b := waiting [.attemptEnd true true] (inDir (fun d => { d with numbering := .conflict }) (station .claiming .follower []))
    let c := waiting [.attach (.form ())] State.reset
    (a.Standing ∧ ∃ t, step a = .next t) ∧ (b.Standing ∧ ∃ t, step b = .next t) ∧ (c.Standing ∧ ∃ t, step c = .next t) :=
  ⟨⟨by unfold State.Standing; decide, _, rfl⟩, ⟨by unfold State.Standing; decide, _, rfl⟩,
    ⟨by unfold State.Standing; decide, _, rfl⟩⟩

/-- A full queue behind a RESTART, 255 overruns owed. -/
theorem witness_RequestQueueStaysWithinItsLimits :
    let s := waiting [.fetch (.form ())] (inLink ⟨.hunt, 0, [restarting, ⟨some (.fetch (.form ())), none, false, []⟩,
      ⟨some (.fetch (.form ())), none, false, []⟩,
      ⟨some (.fetch (.form ())), none, false, List.replicate 255 none⟩]⟩ sector1)
    s.link.Ok ∧ ∃ t, step s = .next t :=
  ⟨by unfold CabinetLink.Ok waitsForRestart firstWaitIsRestart restartAnswering; decide +kernel, _, rfl⟩

theorem witness_QueuesAndCountsStayWithinTheirLimits_counts :
    let s := waiting [.badFrame .stopBitDominant] (inBus (fun b => { b with
      receiveErrors := 255, droppedReports := 65535, superseded := 65535
      outbound := { b.outbound with
        verdict := List.replicate 8 ⟨.verdict ⟨5, 1, 1, 1, Marks.clear⟩, 0⟩
        control := List.replicate 4 ⟨.abort 5 .requested, 0⟩ } }) sector1)
    let u := waiting [.timeBaseTick] (inClock (fun c => { c with holdOff := 500 }) sector1)
    (s.bus.Ok ∧ ∃ t, step s = .next t) ∧ u.HoldOffOk ∧ ∃ t, step u = .next t :=
  ⟨⟨by unfold BusController.Ok; decide, _, rfl⟩, by unfold State.HoldOffOk; decide, _, rfl⟩

/-- Stations 0 and 7 known, this one numbered 7, and a frame of a station not known yet. -/
theorem witness_RecordsAndEntriesStayInStep :
    let s := waiting [.leave (.form ())] (inDir (fun d => { d with number := some 7, pin := some 7, entries := [known 0, known 7] })
      (station .racing .follower [rec' 0 .racing, rec' 7 .racing]))
    let u := { s with pending := [Instr.holdState 3 5 true] }
    (s.TablesOk ∧ (Instr.leave (.form ())).WellFormed ∧ ∃ t, step s = .next t) ∧
      u.TablesOk ∧ (Instr.holdState 3 5 true).WellFormed ∧ ∃ t, step u = .next t := by
  refine ⟨⟨?_, by unfold Instr.WellFormed; decide, _, rfl⟩, ?_, by unfold Instr.WellFormed; decide, _, rfl⟩ <;>
    refine ⟨by decide, by decide, by decide, ?_, ?_⟩ <;> simp [State.ownStation, waiting, inDir, station, known, Directory.initial]

theorem witness_RaceTimeDecreasesOnlyAtAResetOrARebase :
    (∃ t, exec (.resetPin ⟨false, false, false⟩) sector1 = .next t ∧ t.clock.time < sector1.clock.time) ∧
    (∃ t, exec .restartPerformed (inLink ⟨.hunt, 0, [restarting]⟩ sector1) = .next t ∧ t.clock.time < sector1.clock.time) ∧
    (∃ t, exec (.beat 1 ⟨1000, .lobby, some 5, none, 0#8, 0⟩) (station .lobby .follower []) = .next t ∧
      t.clock.time < (station .lobby .follower []).clock.time) :=
  ⟨⟨_, rfl, by decide⟩, ⟨_, rfl, by decide⟩, ⟨_, rfl, by decide⟩⟩

theorem witness_TrackSettingsSerialAndStrapsAreKept :
    (∃ t, exec (.powerOn ⟨true, false, true⟩) sector1 = .next t ∧ t.straps ≠ sector1.straps ∧ t.track ≠ sector1.track) ∧
    (∃ t, exec (.track (.form ⟨8, 10000, 1, [0]⟩)) State.reset = .next t ∧ t.track ≠ State.reset.track) ∧
    (∃ t, exec (.setup (.form ⟨3, 0, 100, 4, 2, []⟩)) State.reset = .next t ∧ t.settings ≠ State.reset.settings) :=
  ⟨⟨_, rfl, by decide, by decide⟩, ⟨_, rfl, by decide⟩, ⟨_, rfl, by decide⟩⟩

theorem witness_BusFramesAreReceivedAsSent :
    (Frame.results 255 [⟨some 8, 7, some 8, .finished, some 4294967295, none, 127, Marks.clear⟩]).WellFormed ∧
      (∀ n w, Frame.results 255 [⟨some 8, 7, some 8, .finished, some 4294967295, none, 127, Marks.clear⟩] ≠ .claim n w) ∧
      (Frame.leave 1).WellFormed ∧ (∀ n w, Frame.leave 1 ≠ .claim n w) ∧ 7 < 8 ∧ 254 < 255 :=
  ⟨by unfold Frame.WellFormed; decide, by intros; simp, by unfold Frame.WellFormed; decide, by intros; simp,
    by decide, by decide⟩

theorem witness_DeltaChoiceIsNearest :
    0 < 1 ∧ ({ rec' 6 .racing with p := some (-5), report := some (rep 1 2 3) } : CarRecord).p = some (-5) ∧
      ({ rec' 6 .racing with p := some (-5), report := some (rep 1 2 3) } : CarRecord).report = some (rep 1 2 3) := by decide

/-- B at the old progress, just above it, and at the new; equal stamps; the silence limit, and one past it; G at the
new stamp. -/
theorem witness_CrossingTimesAreInterpolated :
    let old : ReportPoint := ⟨100, 5000⟩
    (100 ≤ old.p) ∧ (old.p < 101 ∧ (5000 : Nat) = old.stamp) ∧ (old.p < 101 ∧ old.stamp + 2000 < 7001) ∧
      (old.p < 101 ∧ (101 : Int) ≤ 101 ∧ old.stamp < 7000 ∧ 7000 ≤ old.stamp + 2000) ∧
      ((101 : Int) ≤ 101 ∧ old.stamp ≤ 7000 ∧ 7000 ≤ 7000 ∧ (101 ≤ old.p → old.stamp ≤ 7000)) := by decide

/-- The smallest and the largest track. -/
theorem witness_BoundariesLieWhereTheTrackSays :
    trackValid ⟨1, 10000, 1, [0]⟩ = true ∧ trackValid ⟨1, 4000000, 8, [0, 1, 2, 3, 4, 5, 6, 3999999]⟩ = true ∧
      (⟨1, 10000, 1, [0], trackSignature ⟨1, 10000, 1, [0]⟩⟩ : Track).lapLine 2 = true := by decide +kernel

/-- Two cars in order, the ring of 64, an empty place, and the same, a lower and a higher index in place. -/
theorem witness_OrderListsEachCarOnceAndRingKeepsTheEarliest :
    let s := station .racing .follower [rec' 1 .idle, { rec' 2 .racing with p := some 5 }, { rec' 6 .racing with p := some 9 }]
    (s.cars.map CarRecord.station).Nodup ∧ s.reevaluate.order.order[0]? = some 6 ∧ s.reevaluate.order.order[1]? = some 2 ∧
      (s.car? 6).isSome = true ∧ (s.car? 2).isSome = true ∧ OrderUnit.cleared.ring.length = 64 ∧
      ((OrderUnit.cleared.cross 3 10).ring.length = 64 ∧ ((OrderUnit.cleared.cross 3 10).ring.getD 3 none).isSome = true) := by
  decide +kernel

theorem witness_NoticesAreTakenByWhatTheQueueHolds :
    let full : NoticeQueue := ⟨⟨1, .order none none⟩ :: List.replicate 31 ⟨1, .go none⟩, 255⟩
    let n : Notice := ⟨9, .order (some 1) (some 6)⟩
    (n.isOrder = true ∧ ∃ m ∈ full.list, m.isOrder = true) ∧
      ((⟨9, .go none⟩ : Notice).isOrder = false ∧ (List.replicate 31 (⟨1, .go none⟩ : Notice)).length < 32) ∧
      (n.isOrder = true ∧ ∀ m ∈ List.replicate 31 (⟨1, .go none⟩ : Notice), m.isOrder = false) ∧
      ((⟨9, .go none⟩ : Notice).isOrder = false ∧ 32 ≤ full.list.length) ∧
      (∀ m ∈ List.replicate 32 (⟨1, .go none⟩ : Notice), m.isOrder = false) := by decide +kernel

theorem witness_FetchRemovesUpToEightNotices :
    let s : State := { sector1 with notices := ⟨List.replicate 8 ⟨1, .go none⟩, 255⟩ }
    s.link.Ready ∧ s.notices.Ok ∧ sector1.link.Ready ∧ sector1.notices.Ok := by
  unfold CabinetLink.Ready NoticeQueue.Ok; decide

/-- A payload of 120 and one of 0, after noise; SKIP with one character and with two to go. -/
theorem witness_ReceiverCutsFramesByCount :
    (∀ c ∈ [0x00#8, 0x5B#8], c ≠ 0x5A#8) ∧ (List.replicate 120 0x5A#8).length ≤ 120 ∧ ([] : List Byte).length ≤ 120 ∧
      1 ≤ 1 ∧ [0x5A#8].length = 1 ∧ ([] : List Byte).length < 1 ∧ [0x5A#8].length < 2 := by decide +kernel

theorem kind_7F (r : Request) : requestKind r ≠ 0x7F#8 := by cases r <;> simp [requestKind]

theorem witness_BrokenFramesAreAnsweredInTheirPlace :
    let q3 := inLink ⟨.hunt, 0, [answered, answered, answered]⟩ sector1
    let skip := inLink ⟨.skip 1, 50, []⟩ sector1
    let inside := inLink ⟨.length, 50, []⟩ sector1
    (q3.link.receiver.feed [0x00#8] = some .hunt) ∧
      (skip.link.receiver.feed [] = some (.skip 1) ∧ 50 ≤ skip.link.stall) ∧
      q3.link.queue.length < 4 ∧ (∀ r, requestKind r ≠ 0x7F#8) ∧
      ((List.replicate 120 0#8).length ≤ 120 ∧
        linkCheck 0x40#8 (List.replicate 120 0#8) + 1#8 ≠ linkCheck 0x40#8 (List.replicate 120 0#8)) ∧
      120 < (121#8).toNat ∧
      (q3.link.receiver.feed [0x5A#8] = some .length ∧ Receiver.length.inFrame = true ∧ [0x5A#8] ≠ []) ∧
      (inside.link.receiver.feed [] = some .length ∧ 50 ≤ inside.link.stall ∧ inside.link.queue.length < 4) :=
  ⟨by decide, by decide, by decide, kind_7F, ⟨by decide, by generalize linkCheck _ _ = x; bv_omega⟩, by decide, by decide,
    by decide⟩

theorem witness_OverrunsAreOwedAndRepliesLeaveInOrder :
    let s := inLink ⟨.hunt, 0, [answered, answered, answered] ++ [{ answered with owed := List.replicate 255 none }]⟩ sector1
    let r1 := inLink ⟨.hunt, 0, [answered]⟩ sector1
    let r2 := inLink ⟨.hunt, 0, [{ answered with owed := [none] }]⟩ sector1
    let r3 := inLink ⟨.hunt, 0, [{ answered with sent := true, owed := [none] }]⟩ sector1
    let r4 := inLink ⟨.hunt, 0, [{ answered with sent := true, owed := [none, none] }]⟩ sector1
    let r5 := inLink ⟨.hunt, 0, [answered, answered]⟩ sector1
    4 ≤ s.link.queue.length ∧ s.link.queue = [answered, answered, answered] ++ [{ answered with owed := List.replicate 255 none }] ∧
      requestOf (.fetch (.malformed [0#8])) = some (.fetch (.malformed [0#8])) ∧ (∀ r, requestKind r ≠ 0x7F#8) ∧
      (([] : List Byte).length ≤ 120 ∧ 0#8 ≠ linkCheck 0x40#8 []) ∧ 120 < (255#8).toNat ∧
      (r1.link.queue = answered :: [] ∧ answered.reply.isSome = true ∧ (∀ p, answered.request ≠ some (.restart p)) ∧
        answered.sent = false ∧ answered.owed = []) ∧
      r2.link.queue = { answered with owed := [none] } :: [] ∧
      r3.link.queue = { answered with sent := true, owed := [none] } :: [] ∧
      r4.link.queue = { answered with sent := true, owed := none :: none :: [] } :: [] ∧
      r5.link.queue = answered :: answered :: [] :=
  ⟨by decide, rfl, rfl, kind_7F, by decide +kernel, by decide,
    ⟨rfl, rfl, by intro p; simp [answered], rfl, rfl⟩, rfl, rfl, rfl, rfl⟩

theorem witness_RequestsWaitBehindARestart :
    let q3 := inLink ⟨.hunt, 0, [answered, answered, restarting]⟩ sector1
    let performed : QueueEntry := { restarting with reply := some (.answer 0x85#8 .done .empty) }
    let w : QueueEntry := ⟨some (.fetch (.form ())), none, false, [none]⟩
    (requestOf (.setup (.malformed [])) = some (.setup (.malformed [])) ∧ requestBad (.setup (.malformed [])) = true) ∧
      q3.link.queue.length < 4 ∧
      (requestOf (.fetch (.form ())) = some (.fetch (.form ())) ∧ requestBad (.fetch (.form ())) = false ∧
        ∃ e ∈ q3.link.queue, e.reply = none) ∧
      ((inLink ⟨.hunt, 0, [performed, w]⟩ sector1).link.queue = [performed, w] ∧
        performed.request = some (.restart (.form ())) ∧ performed.reply.isSome = true ∧ performed.sent = false ∧
        performed.owed = [] ∧ w.request = some (.fetch (.form ())) ∧ w.reply = none ∧
        isRestart (.fetch (.form ())) = false) := by decide

theorem witness_ResetsReturnToPowerOn :
    (inLink ⟨.hunt, 0, [restarting, answered]⟩ sector1).link.queue = restarting :: [answered] ∧
      restarting.request = some (.restart (.form ())) ∧ restarting.reply = none := ⟨rfl, rfl, rfl⟩

/-- The slots 0, 1, 8 and 9, mapped and not, to a car with a record and to none. -/
theorem witness_AskCarAnswersByItsTable :
    let s := inDir (fun d => { d with slots := [⟨1, 6⟩, ⟨2, 3⟩] }) sector1
    s.link.Ready ∧ 7 < 8 ∧ (0 < 1 ∨ 8 < 0) ∧ (9 < 1 ∨ 8 < 9) ∧ (∀ e ∈ s.dir.slots, e.slot ≠ 8) ∧
      (7 ≤ 7 ∧ s.car? 7 = none) ∧ (6 ≤ 7 ∧ (s.car? 6).isSome = true) ∧
      (s.dir.slots.find? (·.slot == 1) = some ⟨1, 6⟩ ∧ (s.car? 6).isSome = true) ∧
      (s.dir.slots.find? (·.slot == 2) = some ⟨2, 3⟩ ∧ s.car? 3 = none) := by
  unfold CabinetLink.Ready; decide

/-- A car in the running order; a car with no boundary, one at the ring's index, and one whose entry has gone on. -/
theorem witness_QuestionsAnswerWithTheStateHeld :
    let c : CarRecord := { rec' 6 .racing with p := some 5, crossed := some ⟨3, 20, false⟩ }
    let s : State := { station .racing .follower [c] with order := { OrderUnit.cleared.cross 3 10 with order := [6] } }
    let u : State := { s with order := OrderUnit.cleared.cross 67 30 }
    s.link.Ready ∧ (∀ st ∈ s.order.order, (s.car? st).isSome = true) ∧ s.order.order[0]? = some 6 ∧ s.car? 6 = some c ∧
      s.track = some track0 ∧ (rec' 6 .racing).crossed = none ∧ c.crossed = some ⟨3, 20, false⟩ ∧
      s.order.ring.getD (3 % 64) none = some ⟨3, 10⟩ ∧ u.order.leading = some 67 ∧
      u.order.ring.getD (3 % 64) none = some ⟨67, 30⟩ ∧
      ({ s with finish := ⟨1, [], some ⟨5, []⟩⟩ } : State).finish.results = some ⟨5, []⟩ := by
  unfold CabinetLink.Ready; decide +kernel

theorem witness_TimeFormConvertsACount : sector1.link.Ready := by unfold CabinetLink.Ready; decide

/-- The pin codes 7, 8, 254 and 255. -/
theorem witness_SetupIsStored :
    sector1.link.Ready ∧ State.reset.link.Ready ∧ (sector1.race.phase ≠ .detached ∧ sector1.race.phase ≠ .lobby) ∧
      (State.reset.race.phase = .detached ∧ 7 < 8 ∧ 8 ≠ 255 ∧ 7 < 254 ∧ 254 ≠ 255) ∧
      (State.reset.dir.numbering = .detached ∧ State.reset.clock.role ≠ .acting) := by
  unfold CabinetLink.Ready; decide

theorem witness_SetupInLobbyActsOnTheNumber :
    let s := station .lobby .follower [rec' 2 .idle]
    let f : SetupFields := ⟨7, 1, 100, 4, 2, []⟩
    s.link.Ready ∧ s.race.phase = .lobby ∧ s.dir.numbering = .numbered ∧ s.dir.number = some 2 ∧
      ((f.eligible != 0) = s.clock.eligible) ∧ s.clock.role = .follower ∧ (f.pin ≤ 7 ∧ f.pin ≠ 2) ∧
      (some 2 ≠ s.dir.pin ∧ s.flying .announce = false) ∧ ((255 = 2 ∨ 255 = 255) ∧ [0x41#8].take 8 ≠ s.dir.label) := by
  unfold CabinetLink.Ready; decide

/-- L at 9,999, 10,000 and 4,000,001, in LOBBY, DETACHED and RACING. -/
theorem witness_TrackIsLoadedWhole :
    sector1.link.Ready ∧ State.reset.link.Ready ∧ (sector1.race.phase ≠ .detached ∧ sector1.race.phase ≠ .lobby) ∧
      (State.reset.race.phase = .detached ∧ (9999 < 10000 ∨ 4000000 < 9999) ∧ (4000001 < 10000 ∨ 4000000 < 4000001)) ∧
      ((station .lobby .follower []).race.phase = .lobby ∧ ¬(10000 < 10000 ∨ 4000000 < 10000) ∧ ¬(1 < 1 ∨ 8 < 1) ∧
        [0].length = 1 ∧ [0][0]? = some 0 ∧ (∀ i, ¬(i + 1 < [0].length)) ∧ ¬10000 ≤ [0].getD 0 0) :=
  ⟨by unfold CabinetLink.Ready; decide, by unfold CabinetLink.Ready; decide, by decide, by decide, rfl, by decide, by decide,
    rfl, rfl, by simp, by decide⟩

theorem witness_AttachListensAndDetachLeaves :
    State.reset.link.Ready ∧ sector1.link.Ready ∧ State.reset.dir.numbering = .detached ∧
      sector1.dir.numbering ≠ .detached := by
  unfold CabinetLink.Ready; decide

/-- Without a track, as a follower and as the referee; with and without an own car that may leave. -/
theorem witness_EnterAndLeaveAskTheReferee :
    let f := station .entry .follower [rec' 2 .entered]
    let r := station .entry .acting [rec' 2 .entered]
    f.link.Ready ∧ r.link.Ready ∧ sector1.link.Ready ∧ sector1.race.phase ≠ .entry ∧
      (f.race.phase = .entry ∧ ({ f with track := none } : State).track = none) ∧
      (f.track = some track0 ∧ f.clock.role ≠ .acting) ∧
      (r.ownStation = some 2 ∧ r.track = some track0 ∧ r.race.phase = .entry ∧ r.clock.role = .acting) ∧
      sector1.ownCar? = none ∧ (f.ownCar? = some (rec' 2 .entered) ∧ (rec' 2 .entered).state = .entered) ∧
      (r.ownCar? = some (rec' 2 .entered)) := by
  unfold CabinetLink.Ready; decide

/-- G one light interval ahead, and one tick more. -/
theorem witness_ReadyAndHoldAskTheReferee :
    let f := atTime 1990000 (station .countdown .follower [rec' 2 .gridded])
    let e := atTime 1989999 f
    let r := atTime 1989999 (station .countdown .acting [rec' 2 .gridded])
    f.link.Ready ∧ e.link.Ready ∧ r.link.Ready ∧ sector1.link.Ready ∧ (sector1.race.phase ≠ .grid ∧ sector1.race.phase ≠ .countdown) ∧
      (f.race.phase = .countdown ∧ f.ownCar? = some (rec' 2 .gridded)) ∧
      (f.race.green = some 2000000 ∧ 2000000 ≤ f.clock.time + f.race.options.lightInterval) ∧
      (e.race.green = some 2000000 ∧ ¬2000000 ≤ e.clock.time + e.race.options.lightInterval ∧ e.clock.role ≠ .acting ∧
        e.ownCar? = some (rec' 2 .gridded)) ∧
      (r.ownStation = some 2 ∧ r.race.phase = .countdown ∧ r.ownCar? = some (rec' 2 .gridded) ∧ r.clock.role = .acting ∧
        r.race.green = some 2000000 ∧ ¬2000000 ≤ r.clock.time + r.race.options.lightInterval) := by
  unfold CabinetLink.Ready; decide

/-- No own car, a RACING one, and one each that sends and that does not while no progress is worked out. -/
theorem witness_CarIsStampedAndStored :
    let a := station .racing .follower [rec' 2 .racing]
    let b := station .entry .follower [rec' 2 .entered]
    let c := station .lobby .follower [rec' 2 .idle]
    sector1.link.Ready ∧ sector1.ownCar? = none ∧ a.link.Ready ∧ a.ownStation = some 2 ∧ a.ownCar?.isSome = true ∧
      (b.link.Ready ∧ b.ownCar? = some (rec' 2 .entered) ∧ b.race.phase ≠ .results ∧ (rec' 2 .entered).state = .entered) ∧
      (c.link.Ready ∧ c.ownCar? = some (rec' 2 .idle) ∧ c.race.phase ≠ .results ∧ (rec' 2 .idle).state = .idle) := by
  unfold CabinetLink.Ready; decide

theorem witness_ReportMovesProgressByTheDelta :
    let c : CarRecord := { rec' 6 .racing with p := some 179500, pmax := some 179500, report := some (rep 2063000 179500 4500) }
    sector1.car? 6 = some c ∧ sector1.track = some track0 ∧ c.p = some 179500 ∧ c.pmax = some 179500 ∧
      c.report = some (rep 2063000 179500 4500) ∧ c.state = .racing ∧
      ((station .racing .follower [rec' 6 .retired]).car? 6 = some (rec' 6 .retired) ∧ (rec' 6 .retired).state = .retired) := by
  decide

/-- From 300 before the line to the line itself. -/
theorem witness_CrossingTheFinishIsAProvisionalFinish :
    let c : CarRecord := { rec' 6 .racing with p := some 1499700, pmax := some 1499700, report := some (rep 3134500 499700 4500) }
    let s := station .racing .follower [c]
    s.car? 6 = some c ∧ s.track = some track0 ∧ c.p = some 1499700 ∧ c.pmax = some 1499700 ∧
      c.report = some (rep 3134500 499700 4500) ∧ s.race.green = some 2000000 ∧ 2000000 ≤ (rep 3134567 0 4500).stamp ∧
      1 ≤ track0.S ∧ 0 < track0.L ∧ track0.starts.getD 0 0 = 0 ∧ 1 ≤ s.race.options.laps ∧ s.clock.role ≠ .acting ∧
      s.race.phase = .racing ∧ c.state = .racing ∧ 1499700 < (s.race.options.laps * track0.L : Nat) ∧
      ((s.race.options.laps * track0.L : Nat) : Int) = 1499700 + movement track0.L (rep 3134500 499700 4500) (rep 3134567 0 4500) := by
  decide +kernel

/-- The options all absent, and laps of 0 and 100. -/
theorem witness_OpenStartsTheEntry :
    let f : OpenFields := ⟨7, 0#16, none, none, none, none, none, none, none, none, none, none, none, none, none, none⟩
    let l := station .lobby .acting []
    let r := station .results .acting [rec' 6 .finished]
    (sector1.link.Ready ∧ sector1.clock.role ≠ .acting) ∧
      (entry3.link.Ready ∧ entry3.clock.role = .acting ∧ entry3.race.phase ≠ .lobby ∧ entry3.race.phase ≠ .results) ∧
      (l.link.Ready ∧ l.clock.role = .acting ∧ l.race.phase = .lobby ∧ l.track = some track0 ∧ track0.id = f.trackId ∧
        track0.signature = f.signature ∧ track0.id ≠ ({ f with trackId := 8 } : OpenFields).trackId) ∧
      (r.link.Ready ∧ r.race.phase = .results ∧ r.clock.role = .acting ∧ r.track = some track0) ∧
      (l.bus.outbound.control.length < 4) ∧ ((some 0).isSome = true ∧ some 1 ≠ some 0) ∧ ((some 100).isSome = true ∧ some 99 ≠ some 100) := by
  unfold CabinetLink.Ready; decide

theorem witness_GoodFramesAreRecorded :
    let busy := inBus (fun b => { b with line := .busy }) sector1
    let conflict := inDir (fun d => { d with numbering := .conflict }) (station .claiming .follower [])
    let quiet := inDir (fun d => { d with entries := [{ known 6 with live := false }] }) sector1
    sourceOf (.holdState 6 5 true) = some 6 ∧ sourceOf (.leave (.form ())) = none ∧
      (busy.bus.line ≠ .idle ∧ busy.bus.line ≠ .receiving) ∧
      (conflict.receives = true ∧ conflict.dir.numbering = .conflict ∧ conflict.dir.number = some 2) ∧
      (sector1.receives = true ∧ sector1.dir.numbering = .numbered ∧ sector1.dir.number = some 2 ∧
        sourceOf (.holdState 2 5 true) = some 2 ∧ sector1.flying .announce = false) ∧
      (sector1.dir.number ≠ some 6 ∧ raceOf (.holdState 6 4 true) = some 4 ∧ sector1.race.raceNumber ≠ some 4 ∧ sector1.Hears 6) ∧
      (sector1.dir.entry? 6 = some (known 6)) ∧
      (quiet.receives = true ∧ quiet.dir.entry? 6 = some { known 6 with live := false }) ∧
      (sector1.dir.number ≠ some 7 ∧ sector1.dir.entry? 7 = none ∧ sector1.car? 7 = none) ∧
      (∀ e ∈ [EntryState.entered, .gridded, .benched],
        let s := inRace (fun r => { r with entries := [⟨7, some 8, e⟩] }) sector1
        s.dir.entry? 7 = none ∧ s.car? 7 = none ∧ s.race.entries.find? (fun x => x.station == 7) = some ⟨7, some 8, e⟩) ∧
      (let c := inDir (fun d => { d with numbering := .claiming, number := none, wanted := some 0 })
        (inBus (fun b => { b with outbound := { b.outbound with claim := ⟨some ⟨.claim 9#48 0, 0⟩, none⟩ } })
          (station .claiming .follower []))
       c.receives = true ∧ c.dir.number ≠ some 0 ∧ c.dir.entry? 0 = none ∧ c.car? 0 = none ∧ c.dir.numbering = .claiming ∧
        c.dir.wanted = some 0 ∧ c.bus.outbound.claim.held.isSome = true ∧ c.flying .claim = false) := by
  unfold State.Hears; decide

theorem witness_GoodFramesAreRecorded_own (a : AnnounceFields) : Instr.holdState 2 5 true ≠ .announce 2 a := by simp

theorem witness_ClaimsAreObjectedByTheTable :
    let busy := inBus (fun b => { b with line := .busy }) sector1
    let conflict := inDir (fun d => { d with numbering := .conflict }) (station .claiming .follower [])
    let listening := inDir (fun d => { d with numbering := .listening, number := none, pin := some 4 }) (station .claiming .follower [])
    (busy.bus.line ≠ .idle ∧ busy.bus.line ≠ .receiving) ∧ sector1.bus.line = .idle ∧
      (sector1.dir.numbering = .numbered ∧ sector1.dir.number = some 2) ∧
      (listening.dir.numbering = .listening ∧ listening.dir.pin = some 4) ∧
      (conflict.dir.numbering = .conflict ∧ conflict.dir.number = some 2) ∧
      ¬((sector1.dir.numbering = .numbered ∧ sector1.dir.number = some 3) ∨
        (sector1.dir.numbering = .listening ∧ sector1.dir.pin = some 3) ∨
        (sector1.dir.numbering = .conflict ∧ sector1.dir.number = some 3)) := by decide

theorem witness_AnnounceCompletesItsEntry :
    let r := station .results .acting [rec' 6 .finished]
    let held : State := { r with finish := ⟨1, [], some ⟨5, []⟩⟩ }
    let list : List ResultEntry := [⟨some 1, 6, some 2, .finished, some 1134625, none, 3, Marks.clear⟩]
    let one : State := { r with finish := ⟨1, [], some ⟨5, list⟩⟩ }
    (one.Hears 6 ∧ one.race.trackRef = some ⟨7, 0#16⟩ ∧ one.clock.role = .acting ∧ one.race.phase = .results ∧
      one.finish.results = some ⟨5, list⟩ ∧ list ≠ []) ∧
    (sector1.Hears 6 ∧ sector1.clock.role ≠ .acting) ∧
      (entry3.Hears 6 ∧ entry3.race.trackRef = some ⟨7, 0#16⟩ ∧ entry3.clock.role = .acting ∧ entry3.race.phase = .entry ∧
        entry3.bus.outbound.control = []) ∧
      (held.Hears 6 ∧ held.race.trackRef = some ⟨7, 0#16⟩ ∧ held.clock.role = .acting ∧ held.race.phase = .results ∧
        held.finish.results = some ⟨5, []⟩) := by
  unfold State.Hears; decide

/-- The station's serial is 9: an equal one, a greater and a smaller one, unpinned and pinned. -/
theorem witness_DuplicatesAreSettledByPinAndSerial :
    let p := inDir (fun d => { d with pin := some 2 }) sector1
    (sector1.receives = true ∧ sector1.dir.numbering = .numbered ∧ sector1.dir.number = some 2 ∧ sector1.dir.serial = 9#48) ∧
      ((10#48 : Serial) ≠ sector1.dir.serial ∧ sector1.dir.pin.isSome = false ∧
        sector1.dir.serial.toNat < (10#48 : Serial).toNat) ∧
      ((8#48 : Serial) ≠ sector1.dir.serial ∧ ¬sector1.dir.serial.toNat < (8#48 : Serial).toNat) ∧
      (p.receives = true ∧ p.dir.numbering = .numbered ∧ p.dir.number = some 2 ∧ p.dir.pin.isSome = true ∧
        (8#48 : Serial) ≠ p.dir.serial) := by decide

/-- A stamp equal to the last report's, and one above it; 1,000 and 1,001 ahead of local race time. -/
theorem witness_RemoteReportsAreTakenUnlessStale :
    let c : CarRecord := { rec' 6 .racing with p := some 179500, pmax := some 179500, report := some (rep 2063000 179500 4500) }
    let g := station .grid .follower [{ rec' 6 .gridded with report := some (rep 1999000 0 0) }]
    sector1.Hears 6 ∧ sector1.race.raceNumber = some 5 ∧ sector1.car? 6 = some c ∧ c.report = some (rep 2063000 179500 4500) ∧
      ((atTime 2063000 sector1).Hears 6 ∧ (2063000 : Nat) ≤ 2063000 ∧ ¬2063000 + 1000 < 2064000 ∧ 2063000 + 1000 < 2064001) ∧
      (2063000 < 2063001) ∧ (g.Hears 6 ∧ g.race.raceNumber = some 5 ∧ g.car? 6 = some { rec' 6 .gridded with report := some (rep 1999000 0 0) } ∧
        g.race.phase ≠ .results ∧ 1999000 < 2000000) := by
  unfold State.Hears; decide

/-- Targets at local race time, one below, 500 below and 501 below (the latency is 2). -/
theorem witness_BeatsSetTheClock :
    let l := station .lobby .follower []
    let c := station .claiming .follower []
    (sector1.Hears 1 ∧ sector1.clock.role ≠ .acting) ∧
      (l.Hears 1 ∧ l.clock.role ≠ .acting ∧ l.clock.time ≤ 1999998 + l.clock.latency ∧
        ({ l.heard 1 with clock := { l.clock with time := 2000000, holdOff := 0, conflict := false } } : State).nextDue = none) ∧
      (1999997 + l.clock.latency < l.clock.time ∧ l.clock.time ≤ 1999498 + l.clock.latency + 500) ∧
      (1999497 + l.clock.latency + 500 < l.clock.time ∧ l.race.phase = .lobby) ∧
      (1999497 + sector1.clock.latency + 500 < sector1.clock.time ∧ sector1.race.phase ≠ .claiming ∧ sector1.race.phase ≠ .lobby) ∧
      (c.Hears 1 ∧ c.clock.role ≠ .acting ∧ c.race.phase = .claiming) ∧
      ((station .grid .follower []).Hears 1 ∧ (station .grid .follower []).race.phase = .grid ∧
        (⟨1999997, .grid, some 5, none, 0#8, 0⟩ : BeatFields).phase = .grid ∧
        (⟨1999997, .grid, some 5, none, 0#8, 0⟩ : BeatFields).raceNumber = (station .grid .follower []).race.raceNumber) := by
  unfold State.Hears; decide +kernel

theorem witness_RefereesYieldToALowerNumber :
    entry3.dir.number = some 2 ∧ entry3.Hears 6 ∧ entry3.Hears 1 ∧ entry3.clock.role = .acting ∧ entry3.dir.numbering = .numbered ∧
      2 < 6 ∧ 1 < 2 ∧ (1999997 + entry3.clock.latency < entry3.clock.time ∧ entry3.clock.time ≤ 1999498 + entry3.clock.latency + 500) ∧
      (⟨1999997, .entry, some 5, none, 0#8, 0⟩ : BeatFields).phase = entry3.race.phase ∧ some 5 = entry3.race.raceNumber ∧
      entry3.flying .beat = false := by
  unfold State.Hears; decide

/-- COUNTDOWN to RACING (green) and RACING back to GRID (undone), and LOBBY from both ends. -/
theorem witness_PhasesFollowTheReferee :
    (∀ p ∈ [Phase.lobby, .countdown, .racing, .results], (station p .follower []).Hears 1 ∧
      (station p .follower []).race.raceNumber = some 5 ∧ (station p .follower []).clock.role = .follower ∧
      p ≠ .detached ∧ p ≠ .claiming) ∧ 5 ≠ 0 := by
  unfold State.Hears; decide

theorem witness_ANewRaceNumberClearsTheOldRace :
    (∀ p ∈ [Phase.lobby, .entry, .racing, .results], (station p .follower []).Hears 1 ∧
      (station p .follower []).clock.role = .follower ∧ (station p .follower []).race.phase ≠ .detached ∧
      (station p .follower []).race.phase ≠ .claiming ∧ (station p .follower []).race.raceNumber ≠ some 6 ∧
      (station p .follower []).race.raceNumber ≠ none ∧
      1999997 + (station p .follower []).clock.latency < (station p .follower []).clock.time ∧
      (station p .follower []).clock.time ≤ 1999498 + (station p .follower []).clock.latency + 500) ∧
      (Phase.entry ≠ .detached ∧ Phase.entry ≠ .claiming ∧ Phase.entry ≠ .lobby) := by
  unfold State.Hears; decide

theorem witness_EntriesSetTheCars :
    let s := station .grid .follower [rec' 2 .entered, rec' 6 .entered]
    let e : EntriesFields := ⟨5, .grid, some ⟨2, .full⟩, [⟨6, some 1, .gridded⟩]⟩
    s.Hears 1 ∧ s.race.raceNumber = some e.raceNumber ∧ s.clock.role ≠ .acting ∧ e.phase = s.race.phase ∧ e.phase ≠ .detached ∧
      e.phase ≠ .claiming ∧ s.dir.number = some 2 ∧ s.dir.numbering = .numbered ∧ e.refusal = some ⟨2, .full⟩ ∧
      (e.entries.any fun x => x.station == 2) = false ∧ (e.entries.any fun x => x.station == 6) = true := by
  unfold State.Hears; decide

theorem witness_VerdictsAreFollowed :
    let s := station .finishing .follower [{ rec' 1 .finished with position := some 1, officialTf := some 2000200 }, rec' 6 .racing]
    let v : VerdictFields := ⟨5, 6, 1, 2000100, Marks.clear⟩
    let held : VerdictFields := ⟨5, 1, 1, 2000200, ⟨true, false, false⟩⟩
    s.Hears 1 ∧ s.race.raceNumber = some v.raceNumber ∧ s.clock.role ≠ .acting ∧ s.race.phase = .finishing ∧
      s.car? v.station = some (rec' 6 .racing) ∧ ((rec' 6 .racing).position ≠ some v.position) ∧ s.race.green = some 2000000 ∧
      (s.car? held.station = some { rec' 1 .finished with position := some 1, officialTf := some 2000200 }) ∧
      (held.marks ≠ Marks.clear ∧ (rec' 1 .finished).marks = Marks.clear) ∧
      ((station .racing .acting []).Hears 1 ∧ (station .racing .acting []).clock.role = .acting) ∧
      ((station .results .follower []).Hears 1 ∧ (station .results .follower []).race.phase = .results) ∧
      ((station .grid .follower []).Hears 1 ∧ (station .grid .follower []).race.phase = .grid) ∧
      (s.car? 7 = none) := by
  unfold State.Hears; decide

/-- The three rows of the grid hold; entrant 6 begins, is past the commit point, stops with others holding, and is the
last to stop. -/
theorem witness_HoldsAreAppliedByTheReferee :
    let row (b : Option Nat) : HoldRow := ⟨6, b, 0⟩
    let ref (p : Phase) (g : Option Nat) (table : List HoldRow) : State := inRace (fun r => { r with
      phase := p, green := g, holdTable := table, remainder := if p = .countdown ∧ g = none then some 9000 else none
      entries := [⟨2, some 1, .gridded⟩, ⟨6, some 2, .gridded⟩] }) (station p .acting [])
    let last := ref .grid none [row (some 1900000), ⟨2, none, 0⟩]
    let two := ref .grid none [row (some 1900000), ⟨2, some 1900000, 0⟩]
    let count (g : Nat) := ref .countdown (some g) [row none, ⟨2, none, 0⟩]
    let suspended := ref .countdown none [row (some 1900000), ⟨2, none, 0⟩]
    (sector1.Hears 6 ∧ sector1.race.raceNumber = some 5 ∧ sector1.clock.role ≠ .acting) ∧
      (∀ s ∈ [last, two, count 2010000, count 2010001, suspended], s.Hears 6 ∧ s.race.raceNumber = some 5 ∧
        (s.race.holdTable.find? (fun r => r.station == 6)).isSome = true ∧ s.clock.role = .acting ∧
        (s.race.phase = .grid ∨ s.race.phase = .countdown) ∧
        (s.race.entries.find? fun e => e.station == 6).any (fun e => e.state ≠ .benched) = true ∧
        s.race.options.minimumField ≤ (s.race.entries.filter fun e => e.state ≠ .benched).length) ∧
      ((row none).holdStart = none ∧ (row (some 1900000)).holdStart.isSome = true) ∧
      (2010000 ≤ (count 2010000).clock.time + (count 2010000).race.options.lightInterval ∧
        (count 2010001).clock.time + (count 2010001).race.options.lightInterval < 2010001) ∧
      ([⟨6, none, 100000⟩, ⟨2, some 1900000, 0⟩] : List HoldRow).any (fun r => r.holdStart.isSome) = true ∧
      ([⟨6, none, 100000⟩, ⟨2, none, 0⟩] : List HoldRow).all (fun r => r.holdStart.isNone) = true ∧
      (suspended.race.remainder = some 9000 ∧ suspended.race.phase = .countdown ∧ suspended.race.green = none) := by
  unfold State.Hears; decide +kernel

/-- The deadline is 2,000,000: at it, one before it, with the field met and with the field short. -/
theorem witness_HoldersAreBenchedAtTheirDeadline :
    let ref (now : Nat) (entries : List Entry) : State := atTime now (inRace (fun r => { r with
      entries := entries, holdTable := [⟨6, some 1800000, 0⟩, ⟨1, none, 0⟩, ⟨2, some 1900000, 0⟩] }) (station .grid .acting []))
    let three : List Entry := [⟨1, some 1, .gridded⟩, ⟨2, some 2, .gridded⟩, ⟨6, some 3, .gridded⟩]
    let s := ref 2000000 three
    (s.race.holdTable.find? (fun r => r.station == 6) = some ⟨6, some 1800000, 0⟩) ∧
      (1800000 + min s.race.options.singleHold (s.race.options.holdBudget - 0) ≤ s.clock.time) ∧
      ((ref 1999999 three).clock.time < 1800000 + min s.race.options.singleHold (s.race.options.holdBudget - 0)) ∧
      s.clock.role = .acting ∧ s.race.phase = .grid ∧ s.race.options.minimumField ≤ 2 ∧
      s.race.holdTable.any (fun r => r.station ≠ 6 && r.holdStart.isSome) = true ∧
      (((ref 2000000 [⟨2, some 2, .gridded⟩, ⟨6, some 3, .gridded⟩]).race.entries.map fun e =>
          if e.station = 6 then { e with state := EntryState.benched } else e).filter fun e => e.state ≠ .benched).length <
        s.race.options.minimumField ∧
      (s.race.holdTable.find? (fun r => r.station == 1) = some ⟨1, none, 0⟩) ∧
      s.race.holdTable.find? (fun r => r.station == 7) = none := by decide

/-- A listed station, one that is not, an idle record, and a full list. -/
theorem witness_EntersAreDecidedByTheList :
    let s := station .entry .acting [rec' 6 .idle]
    sector1.race.raceNumber = some 5 ∧ sector1.Hears 6 ∧ sector1.clock.role ≠ .acting ∧
      (s.Hears 6 ∧ s.race.raceNumber = some 5 ∧ s.clock.role = .acting ∧ s.race.phase = .entry ∧
        s.race.trackRef.map TrackRef.signature = some 0#16 ∧ s.car? 6 = some (rec' 6 .idle) ∧ (rec' 6 .idle).state = .idle ∧
        s.race.entries ++ [⟨6, none, .entered⟩] ≠ s.race.entries) ∧
      (entry3.Hears 6 ∧ entry3.race.phase = .entry ∧ (entry3.race.entries.any fun e => e.station == 6) = true) := by
  unfold State.Hears; decide

/-- ENTRY, GRID with the field met and short, RACING, and a station that is not listed. -/
theorem witness_LeavesAreDecidedByThePhase :
    let ref (p : Phase) (entries : List Entry) (cars : List CarRecord) : State :=
      inRace (fun r => { r with entries := entries }) (station p .acting cars)
    let two : List Entry := [⟨2, some 1, .gridded⟩, ⟨6, some 2, .gridded⟩]
    let three : List Entry := ⟨1, some 3, .gridded⟩ :: two
    let met := ref .grid three [rec' 6 .gridded]
    let short := ref .grid two [rec' 6 .gridded]
    let on := ref .racing two [rec' 6 .racing]
    let out := ref .racing two [rec' 6 .retired]
    (sector1.race.raceNumber = some 5 ∧ sector1.Hears 6 ∧ (sector1.race.entries.any fun e => e.station == 6) = false) ∧
      (entry3.Hears 6 ∧ (entry3.race.entries.any fun e => e.station == 6) = true ∧ entry3.clock.role = .acting ∧
        entry3.race.phase = .entry ∧ entry3.car? 6 = some (rec' 6 .entered)) ∧
      (met.Hears 6 ∧ met.race.raceNumber = some 5 ∧ (met.race.entries.any fun e => e.station == 6) = true ∧
        met.clock.role = .acting ∧ met.race.phase = .grid ∧ met.car? 6 = some (rec' 6 .gridded) ∧
        ¬((met.race.entries.filter fun e => e.station ≠ 6).filter fun e => e.state ≠ .benched).length < met.race.options.minimumField) ∧
      (short.Hears 6 ∧ short.race.phase = .grid ∧ short.clock.role = .acting ∧
        ((short.race.entries.filter fun e => e.station ≠ 6).filter fun e => e.state ≠ .benched).length < short.race.options.minimumField) ∧
      (on.Hears 6 ∧ on.race.phase = .racing ∧ on.clock.role = .acting ∧ on.car? 6 = some (rec' 6 .racing)) ∧
      (out.Hears 6 ∧ out.car? 6 = some (rec' 6 .retired) ∧ (rec' 6 .retired).state ≠ .racing ∧ (rec' 6 .retired).state ≠ .silent) := by
  unfold State.Hears; decide

/-- At the silence limit and one past it; RETIRE on a follower; one past the retire limit with an entrant still
racing, and with none. -/
theorem witness_CarsFallSilentAndRetire :
    let late := { sector1 with clock := { sector1.clock with role := .acting, time := 2113001 } }
    let open' := inRace (fun r => { r with entries := [⟨6, some 1, .gridded⟩, ⟨2, some 2, .gridded⟩] })
      { late with cars := rec' 2 .racing :: late.cars }
    (∀ t ∈ [2065000, 2065001], (atTime t sector1).race.phase = .racing ∧ ((atTime t sector1).car? 6).isSome = true ∧
      ((atTime t sector1).car? 6).map CarRecord.state = some .racing) ∧
      (max 2063000 2000000 + sector1.race.options.silenceLimit = 2065000) ∧
      (sector1.race.raceNumber = some 5 ∧ sector1.Hears 1 ∧ sector1.clock.role ≠ .acting ∧ sector1.race.green = some 2000000) ∧
      (late.clock.role = .acting ∧ late.race.phase = .racing ∧ 2063000 + late.race.options.retireLimit < late.clock.time ∧
        ((after (.retireLimit 6) late).race.entries.any (running (after (.retireLimit 6) late)) = false)) ∧
      (open'.clock.role = .acting ∧ ((after (.retireLimit 6) open').race.entries.any (running (after (.retireLimit 6) open')) = true)) := by
  unfold State.Hears; decide +kernel

/-- A list of four statuses taken in FINISHING, one held already, and another in RESULTS. -/
theorem witness_ResultsAreTakenWhole :
    let list : List ResultEntry := [⟨some 1, 6, some 2, .finished, some 1134625, none, 3, Marks.clear⟩,
      ⟨none, 1, some 1, .notClassified, none, none, 2, Marks.clear⟩, ⟨none, 2, some 3, .retired, none, none, 0, Marks.clear⟩,
      ⟨none, 0, none, .benched, none, none, 0, Marks.clear⟩]
    let s := station .finishing .follower [rec' 6 .racing, rec' 7 .racing]
    let held : State := { station .results .follower [rec' 6 .finished] with finish := ⟨1, [], some ⟨5, list⟩⟩ }
    (station .grid .follower []).Hears 1 ∧ s.race.raceNumber = some 5 ∧ s.Hears 1 ∧ s.clock.role ≠ .acting ∧
      s.race.phase = .finishing ∧ (list.map ResultEntry.station).Nodup ∧
      ((list.filter fun e => e.status = .finished).map ResultEntry.position).Nodup ∧
      list.all (fun e => e.status ≠ .finished || e.position.isSome) = true ∧ (s.car? 6).isSome = true ∧
      (held.Hears 1 ∧ held.finish.results = some ⟨5, list⟩ ∧ held.race.phase = .results ∧ held.race.raceNumber = some 5) ∧
      ((station .results .follower []).Hears 1 ∧ (station .results .follower []).finish.results ≠ some ⟨5, list⟩) ∧
      (s.car? 7 = some (rec' 7 .racing) ∧ list.any (fun e => e.station == 7) = false) := by
  unfold State.Hears; decide

/-- 8 and 9 stations, the numbers 7 and 8, a short field, and the entry window at its deadline and one before it. -/
theorem witness_TheGridIsFormed :
    let short := inRace (fun r => { r with entries := [⟨2, none, .entered⟩], entryDeadline := some 2000000 })
      (station .entry .acting [rec' 2 .entered])
    (sector1.link.Ready ∧ sector1.clock.role ≠ .acting) ∧ ((station .racing .acting []).race.phase ≠ .entry) ∧
      (entry3.link.Ready ∧ entry3.clock.role = .acting ∧ entry3.race.phase = .entry) ∧ 8 < (List.replicate 9 1).length ∧
      ([8].any (fun st => 7 < st) = true) ∧ ((List.replicate 8 7).length ≤ 8 ∧ (List.replicate 8 7).all (fun st => st ≤ 7) = true) ∧
      (short.link.Ready ∧ short.clock.role = .acting ∧ short.race.phase = .entry ∧
        short.race.entries.length < short.race.options.minimumField ∧ short.race.entryDeadline = some 2000000 ∧
        2000000 ≤ short.clock.time) ∧
      (entry3.race.options.minimumField ≤ entry3.race.entries.length ∧ (entry3.race.entries.map Entry.station).Nodup ∧
        entry3.race.entryDeadline = some 2000000 ∧ 2000000 ≤ entry3.clock.time ∧ entry3.bus.outbound.control.length < 4) ∧
      (atTime 1999999 entry3).race.entryDeadline.all (fun d => (atTime 1999999 entry3).clock.time < d) = true ∧
      entry3.cars.any (fun c => c.state = .entered) = true := by
  unfold CabinetLink.Ready; decide

theorem witness_RacesEndInTheLobby :
    let r := station .results .acting [rec' 6 .finished]
    let old := inDir (fun d => { d with entries := [{ known 2 with lastHeard := 0 }, known 6] }) r
    (sector1.link.Ready ∧ sector1.clock.role ≠ .acting) ∧
      (entry3.link.Ready ∧ entry3.clock.role = .acting ∧ entry3.race.phase = .entry ∧ entry3.bus.inFlight = none ∧
        entry3.bus.outbound.control.length < 4 ∧
        entry3.dir.entries.all (fun e => entry3.ownStation == some e.number ||
          decide (entry3.clock.time < e.lastHeard + 200 * e.unit)) = true) ∧
      (old.link.Ready ∧ old.clock.role = .acting ∧ old.race.phase = .results ∧ old.bus.inFlight = none ∧
        old.dir.entries.all (fun e => old.ownStation == some e.number || decide (old.clock.time < e.lastHeard + 200 * e.unit)) = true ∧
        old.dir.entries.any (fun e => decide (e.lastHeard + 200 * e.unit ≤ old.clock.time)) = true) ∧
      (sector1.race.raceNumber = some 5 ∧ sector1.Hears 1 ∧ sector1.race.phase = .racing ∧ sector1.clock.role ≠ .waiting ∧
        (sector1.heard 1).dir.entries.all (fun e => sector1.ownStation == some e.number ||
          decide (sector1.clock.time < e.lastHeard + 200 * e.unit)) = true ∧
        sector1.bus.inFlight = none) ∧
      ((station .lobby .follower []).Hears 1 ∧ (station .lobby .follower []).race.phase = .lobby) := by
  unfold CabinetLink.Ready State.Hears; decide

/-- A VERDICT at its seventh and eighth attempt, a REPORT at its second, on the line and not. -/
theorem witness_FramesAreSentAndRetried :
    let one (k : FrameKind) (h : Held) (line : LineState) : State := inBus (fun b => { b with
      line := line, inFlight := some ⟨k, 2, h.frame, none⟩
      outbound := Outbound.empty.update k (fun _ => ⟨some h, none⟩) (fun _ => [h]) }) sector1
    let verdict (n : Nat) : Held := ⟨.verdict ⟨5, 1, 1, 2000000, Marks.clear⟩, n⟩
    let report : Held := ⟨.report 5 (rep 1 2 3), 1⟩
    let announce : Held := ⟨.announce sector1.ownInfo, 2⟩
    (sector1.bus.inFlight = none ∧ sector1.bus.line = .idle ∧ sector1.bus.leaving = .no) ∧
      (sending.bus.line = .idle ∧ sending.bus.leaving = .no ∧ sending.dir.numbering = .numbered ∧
        sending.bus.outbound.verdict.head? = some (verdict 7)) ∧
      (∀ x ∈ [(FrameKind.verdict, verdict 6), (.verdict, verdict 7), (.report, report), (.announce, announce)],
        (one x.1 x.2 .sending).bus.inFlight = some ⟨x.1, 2, x.2.frame, none⟩ ∧ (one x.1 x.2 .sending).bus.line = .sending ∧
        (one x.1 x.2 .arbitrating).bus.line = .arbitrating ∧ (one x.1 x.2 .sending).bus.leaving = .no ∧
        (one x.1 x.2 .sending).bus.outbound.followUp x.1 = none ∧
        ((one x.1 x.2 .sending).bus.outbound.frames x.1).head? = some x.2 ∧ x.1 ≠ .claim ∧ x.2.frame.kind = x.1) ∧
      (6 + 1 < 8 ∧ 8 ≤ 7 + 1 ∧ 2 ≤ report.attempts + 1 ∧ 3 ≤ announce.attempts + 1) ∧
      (sector1.bus.outbound.report.held = none ∧ sector1.bus.outbound.report.followUp = none) ∧
      (sending.bus.outbound.report.held.isSome = true ∧ sending.bus.outbound.report.followUp = none ∧ sending.flying .report = false) ∧
      ((one .report report .sending).bus.outbound.report.held.isSome = true ∧ (one .report report .sending).flying .report = true) := by
  decide +kernel

theorem witness_LineEventsMoveTheLineState :
    let on (l : LineState) : State := inBus (fun b => { b with line := l }) sector1
    let flying (l : LineState) : State := inBus (fun b => { b with
      line := l, inFlight := some ⟨.report, 2, .report 5 (rep 1 2 3), none⟩
      outbound := { b.outbound with report := ⟨some ⟨.report 5 (rep 1 2 3), 0⟩, none⟩ } }) sector1
    ((on .busy).bus.line = .busy ∧ (on .idle).bus.line ≠ .busy ∧ (on .stuck).bus.line = .stuck ∧ (on .off).bus.line = .off) ∧
      ((on .receiving).bus.leaving = .no ∧ (on .receiving).bus.inFlight = none) ∧
      ((flying .arbitrating).bus.line = .arbitrating ∧ ((flying .arbitrating).bus.inFlight.all fun fl =>
        fl.purged = none ∧ (flying .arbitrating).bus.outbound.followUp fl.kind = none) = true) ∧
      ((flying .sending).bus.inFlight.map Flight.kind = some .report ∧ (flying .sending).bus.line = .sending ∧
        (flying .sending).bus.leaving = .no ∧ ((flying .sending).bus.outbound.frames .report).head? =
          some ⟨.report 5 (rep 1 2 3), 0⟩ ∧ ¬2 ≤ 0 + 1) ∧
      (((after (.frameStart true) sending).bus.outbound.frames .verdict).head? =
        some ⟨.verdict ⟨5, 1, 1, 2000000, Marks.clear⟩, 7⟩ ∧ 8 ≤ 7 + 1 ∧ (after (.frameStart true) sending).bus.line = .sending) ∧
      ((receivedFrame []).isNone = true ∧ (receivedFrame ((Frame.holdState 5 true).characters 3)).isNone = false) := by
  decide +kernel

/-- The first and the last light; at G and one before it. -/
theorem witness_LightsAndGreenRunByTheClock :
    let o := Config.defaultOptions
    let s := station .countdown .follower [rec' 6 .gridded]
    (0 < o.lightInterval ∧ 1 ≤ 1 ∧ 1 ≤ o.lightsCount ∧ 1 ≤ 5 ∧ 5 ≤ o.lightsCount) ∧ sector1.race.phase ≠ .countdown ∧
      (s.race.green = some 2000000 ∧ s.race.phase = .countdown ∧ s.race.lights ≠ lightsAt s.race.options 2000000 s.clock.time ∧
        2000000 ≤ s.clock.time) ∧
      (after .lights s).race.lights = lightsAt s.race.options 2000000 s.clock.time ∧
      ((atTime 1999999 s).clock.time < 2000000) := by decide

/-- A due head with another entrant still open, the same one tick early, and the grace deadline. -/
theorem witness_FinishesAreJudgedAfterTheSettleWindow :
    let s := atTime 2001000 (inRace (fun r => { r with entries := [⟨6, some 3, .gridded⟩, ⟨2, some 2, .gridded⟩] })
      { station .racing .acting [rec' 2 .racing, { rec' 6 .finished with slot := some 3, provisionalTf := some 2000000 }] with
        finish := ⟨0, [⟨6, 2000000, some 3, false⟩], none⟩ })
    let g := inRace (fun r => { r with phase := .finishing, graceDeadline := some 2000000 }) s
    (sector1.clock.role ≠ .acting) ∧
      (s.finish.waiting.head? = some ⟨6, 2000000, some 3, false⟩ ∧ s.clock.role = .acting ∧ s.race.phase = .racing ∧
        2000000 + s.race.options.settleWindow ≤ s.clock.time ∧
        ¬(2000000 + s.race.options.settleWindow ≤ (atTime 2000999 s).clock.time) ∧
        (1 ≤ 1 ∧ 1 ≤ s.finish.verdictCount + 1 ∧ ¬1 ≤ s.finish.verdictCount) ∧
        ((List.range 1).all fun q => q = 0 || s.cars.any fun c => c.position == some q) = true ∧
        s.race.entries.any (fun x => x.station ≠ 6 && running s x) = true ∧
        judging.race.entries.any (fun x => x.station ≠ 1 && running { judging with cars := [rec' 1 .finished, rec' 6 .retired] } x) = false) ∧
      (g.race.graceDeadline = some 2000000 ∧ g.clock.role = .acting ∧ g.race.phase = .finishing ∧ 2000000 ≤ g.clock.time ∧
        ⟨6, 2000000, some 3, false⟩ ∈ g.finish.waiting ∧ (g.car? 6).isSome = true) ∧
      (s.race.graceDeadline.all (fun d => s.clock.time < d) = true) := by decide +kernel

/-- LISTENING at its deadline, pinned and not; CLAIMING at its retry; a CLAIM in flight at its first and third
attempt. -/
theorem witness_NumbersAreTakenByPinOrClaim :
    let base := station .claiming .follower []
    let listening (pin : Option Nat) : State := inDir (fun d => { d with
      numbering := .listening, number := none, listenDeadline := some 2000000, pin := pin }) base
    let claiming := inDir (fun d => { d with numbering := .claiming, number := none, claimRetry := some 2000000 }) base
    let flight (n : Nat) : State := inBus (fun b => { b with
      line := .sending, inFlight := some ⟨.claim, 7, .claim 9#48 7, none⟩
      outbound := { b.outbound with claim := ⟨some ⟨.claim 9#48 7, n⟩, none⟩ } })
      (inDir (fun d => { d with numbering := .claiming, number := none, wanted := some 7 }) base)
    (∀ s ∈ [listening (some 3), listening none], s.dir.listenDeadline = some 2000000 ∧ s.dir.numbering = .listening ∧
      2000000 ≤ s.clock.time ∧
      s.dir.entries.all (fun e => e.number == 3 || decide (s.clock.time < e.lastHeard + 200 * e.unit)) = true ∧
      s.clock.role ≠ .waiting ∧ s.notices.list.length ≤ 28 ∧ s.flying .announce = false ∧ s.flying .claim = false) ∧
      sector1.dir.numbering ≠ .listening ∧ sector1.dir.numbering ≠ .claiming ∧ (listening (some 3)).dir.pin = some 3 ∧
      (claiming.dir.claimRetry = some 2000000 ∧ claiming.dir.numbering = .claiming ∧ 2000000 ≤ claiming.clock.time) ∧
      (∀ n ∈ [0, 1, 2], (flight n).bus.inFlight = some ⟨.claim, 7, .claim 9#48 7, none⟩ ∧ (flight n).bus.leaving = .no ∧
        (flight n).bus.line = .sending ∧ (flight n).dir.numbering = .claiming ∧ (flight n).dir.wanted = some 7 ∧
        (flight n).bus.outbound.claim.held = some ⟨.claim 9#48 7, n⟩ ∧ (flight n).bus.outbound.claim.followUp = none ∧
        (flight n).dir.entries.all (fun e => e.number == 7 || decide ((flight n).clock.time < e.lastHeard + 200 * e.unit)) = true ∧
        (flight n).clock.role ≠ .waiting) := by decide

/-- Each limit met, and one tick before it. -/
theorem witness_TimersAndLimitsRunOut :
    let out := inClock (fun c => { c with watchdog := some 0, referee := some 1 }) (station .lobby .follower [rec' 1 .idle])
    let other := inClock (fun c => { c with referee := none }) out
    let ineligible := inClock (fun c => { c with role := .ineligible }) out
    let act := inClock (fun c => { c with role := .acting, beatTimer := some 0 }) out
    let old (t : Nat) := atTime t out
    let info (s : State) : State := inDir (fun d => { d with entries := d.entries.map fun e =>
      { e with info := some ⟨77#48, true, true, []⟩ } }) s
    (sector1.clock.watchdog ≠ some 0) ∧
      (ineligible.clock.watchdog = some 0 ∧ ineligible.dir.numbering = .numbered ∧ ineligible.clock.role = .ineligible) ∧
      (out.dir.number = some 2 ∧ out.clock.watchdog = some 0 ∧ out.dir.numbering = .numbered ∧ out.clock.role = .follower ∧
        out.race.phase = .lobby ∧ out.flying .beat = false) ∧
      (((info other).dir.entries.filter fun e => e.live && e.info.all (fun a => a.eligible) &&
        decide ((info other).clock.referee ≠ some e.number)).map DirEntry.number).foldl min 2 = 1 ∧
      (((info out).dir.entries.filter fun e => e.live && e.info.all (fun a => a.eligible) &&
        decide ((info out).clock.referee ≠ some e.number)).map DirEntry.number).foldl min 2 = 2 ∧
      (sector1.clock.role ≠ .acting) ∧
      (act.clock.role = .acting ∧ act.clock.beatTimer = some 0 ∧ act.race.options.policy ≠ .coast ∧
        (inRace (fun r => { r with phase := .racing, options := { r.options with policy := .coast } }) act).race.phase = .racing) ∧
      (out.dir.entry? 1 = some (known 1) ∧ ¬(out.dir.number = some 1) ∧ (known 1).live = true ∧
        (known 1).lastHeard + 8 * (known 1).unit = 2000700 ∧ (known 1).lastHeard + 200 * (known 1).unit = 2019900 ∧
        (old 2000699).clock.time < 2000700 ∧ 2000700 ≤ (old 2000700).clock.time ∧
        (old 2019899).clock.time < 2019900 ∧ 2019900 ≤ (old 2019900).clock.time ∧ (old 2019900).race.phase = .lobby ∧
        (old 2019900).clock.role ≠ .waiting ∧ ((old 2019900).car? 1).isSome = true) := by decide +kernel

/-! ## The clauses added to those obligations -/

/-- The pin moved, on a follower and on the referee and with eligibility; the number kept with nothing changed, with the
label and with eligibility changed, both ways. -/
theorem witness_SetupInLobbyActsOnTheNumber_role :
    let s := station .lobby .follower [rec' 2 .idle]
    let act := station .lobby .acting [rec' 2 .idle]
    let off := inClock (fun c => { c with role := .ineligible, eligible := false }) s
    let odd := inClock (fun c => { c with eligible := false }) act
    (odd.clock.role = .acting ∧ odd.clock.eligible = false) ∧ (∀ x ∈ [s, act, off, odd], x.link.Ready ∧ x.race.phase = .lobby ∧ x.dir.numbering = .numbered ∧ x.dir.number = some 2) ∧
      (7 ≤ 7 ∧ 7 ≠ 2) ∧ ((2 = 2 ∨ 2 = 255) ∧ (255 = 2 ∨ 255 = 255) ∧ 2 ≤ 7) ∧
      (s.clock.role ≠ .acting ∧ s.clock.eligible = true ∧ (0 != 0) = false) ∧ (act.clock.role = .acting ∧ act.clock.eligible = true) ∧
      (off.clock.role = .ineligible ∧ off.clock.eligible = false ∧ (1 != 0) = true) ∧
      (none = s.dir.pin ∧ ([] : List Byte).take 8 = s.dir.label ∧ [0x41#8].take 8 ≠ s.dir.label ∧ s.flying .announce = false) := by
  unfold CabinetLink.Ready; decide

/-- RELEASED with a number free and with none, on the referee and a follower; CONFLICT; a station unheard too long. -/
theorem witness_DuplicatesAreSettledByPinAndSerial_anew :
    let full := inDir (fun d => { d with taken := 0xFF#8, entries := [known 2, { known 6 with lastHeard := 0 }] }) sector1
    let act := inClock (fun c => { c with role := .acting }) sector1
    let p := inDir (fun d => { d with pin := some 2 }) act
    (∀ x ∈ [sector1, full, act, p], x.receives = true ∧ x.dir.numbering = .numbered ∧ x.dir.number = some 2 ∧
      (8#48 : Serial) ≠ x.dir.serial) ∧
      (sector1.dir.pin.isSome ≠ true ∧ (8#48 : Serial).toNat ≤ sector1.dir.serial.toNat) ∧ act.clock.role = .acting ∧
      (((List.range 8).find? fun n => ([1, 2, 6].all fun e => e != n) && !sector1.dir.taken.getLsbD n) = some 0) ∧
      (((List.range 8).find? fun n => !full.dir.taken.getLsbD n) = none) ∧ p.dir.pin.isSome = true ∧
      (full.dir.entries.filter fun e => decide (e.number ≠ 2) && decide (e.lastHeard + 200 * e.unit ≤ full.clock.time)) =
        [{ known 6 with lastHeard := 0 }] := by decide

/-- BEATs 1 and 500 behind, to a later phase, back before green, and to LOBBY. -/
theorem witness_PhasesFollowTheReferee_beat :
    (∀ p ∈ [Phase.lobby, .countdown, .racing, .finishing, .results], let s := station p .follower [rec' 6 .gridded]
      s.Hears 1 ∧ some 5 = s.race.raceNumber ∧ s.clock.role = .follower ∧ 1999997 + s.clock.latency < s.clock.time ∧
      s.clock.time ≤ 1999498 + s.clock.latency + 500) := by
  unfold State.Hears; decide

/-- The phase held in each group; RESULTS without a list and with one; a hold asked for that the BEAT's hold set lacks
and one it has; and a target 501 behind. -/
theorem witness_BeatsSetTheClock_fields :
    let b (p : Phase) (set : StationSet) : BeatFields := ⟨1999997, p, some 5, some 2010000, set, 3⟩
    let asked := inRace (fun r => { r with holdAsked := true }) (station .countdown .follower [rec' 2 .gridded])
    let r := station .results .follower []
    let held : State := { r with finish := ⟨1, [], some ⟨5, []⟩⟩ }
    (∀ p ∈ [Phase.lobby, .entry, .grid, .countdown, .racing, .finishing, .results], let s := station p .follower []
      s.Hears 1 ∧ (b p 0#8).raceNumber = s.race.raceNumber ∧ (b p 0#8).phase = s.race.phase ∧ s.clock.role = .follower ∧
      (b p 0#8).time + s.clock.latency < s.clock.time ∧ s.clock.time ≤ (b p 0#8).time + s.clock.latency + 500) ∧
      (r.finish.results = none ∧ r.bus.outbound.announce = ⟨none, none⟩) ∧ held.finish.results.isSome = true ∧
      (asked.Hears 1 ∧ asked.race.phase = .countdown ∧ asked.race.holdAsked = true ∧ asked.dir.number = some 2 ∧
        (b .countdown 0#8).holdSet.getLsbD 2 = false ∧ (b .countdown 4#8).holdSet.getLsbD 2 = true ∧
        asked.bus.outbound.holdState = ⟨none, none⟩) ∧
      (1999497 + (station .grid .follower []).clock.latency + 500 < (station .grid .follower []).clock.time) := by
  unfold State.Hears; decide +kernel

/-- A target at G, at the first silent moment of a car, and at the QUIET limit of an entry: each the next deadline, with
none left once it is met; and a target with none due. -/
theorem witness_BeatsSetTheClock_deadlines :
    let c := inRace (fun r => { r with lights := 5, green := some 2000001 }) (station .countdown .follower [])
    let at' (t : Nat) (s : State) : State := { s.heard 1 with clock := { s.clock with time := t, holdOff := 0, conflict := false } }
    let q := inRace (fun r => { r with green := some 1990000 })
      (station .racing .follower [{ rec' 6 .racing with report := some (rep 1998000 0 0) }])
    (c.Hears 1 ∧ c.clock.role ≠ .acting ∧ c.clock.time ≤ 1999999 + c.clock.latency ∧ c.race.green = some 2000001 ∧
      (at' 2000001 c).nextDue = some (2000001, .green) ∧ ((at' 2000001 c).meet .green).nextDue = none ∧
      ((at' 2000001 c).meet .green).clock.role ≠ .acting) ∧
      (q.Hears 1 ∧ q.race.phase = .racing ∧ max 1990000 1998000 + q.race.options.silenceLimit < (at' 2000001 q).clock.time ∧
        (at' 2000001 q).nextDue = some (2000001, .silent 6) ∧ ((at' 2000001 q).meet (.silent 6)).nextDue = none ∧
        (q.cars.map CarRecord.station).Nodup ∧ ((at' 2000001 q).dir.entries.map DirEntry.number).Nodup) ∧
      (sector1.Hears 1 ∧ (at' 2000700 sector1).nextDue = some (2000700, .quiet 6)) := by
  unfold State.Hears; decide +kernel

/-- A race in LOBBY and one in COUNTDOWN, its number present and absent. -/
theorem witness_ANewRaceNumberClearsTheOldRace_notices :
    let s := station .results .follower [rec' 6 .finished]
    s.Hears 1 ∧ s.clock.role = .follower ∧ s.race.phase ≠ .detached ∧ s.race.phase ≠ .claiming ∧ s.race.raceNumber ≠ none ∧
      s.race.raceNumber ≠ some 6 ∧ s.dir.numbering = .numbered ∧
      s.dir.entries.all (fun e => s.dir.number == some e.number || e.number == 1 ||
        decide (s.clock.time < e.lastHeard + 200 * e.unit)) = true ∧
      1 ≤ s.clock.followed.getD s.clock.beatPeriod ∧ 1999997 + s.clock.latency < s.clock.time ∧
      s.clock.time ≤ 1999498 + s.clock.latency + 500 ∧ (Phase.countdown ≠ .detached ∧ Phase.countdown ≠ .claiming) := by
  unfold State.Hears; decide

/-- A list with slots and one without, in COUNTDOWN with lights behind and in ENTRY with an ENTER pending. -/
theorem witness_EntriesSetTheCars_slots :
    let s := inRace (fun r => { r with enterPending := true }) (station .entry .follower [rec' 2 .idle])
    let c := station .countdown .follower [rec' 6 .gridded]
    (∀ x ∈ [s, c], x.Hears 1 ∧ x.race.raceNumber = some 5 ∧ x.clock.role ≠ .acting) ∧
      (([⟨6, some 1, .gridded⟩, ⟨1, some 1, .benched⟩] : List Entry).any fun x => x.slot.isSome) = true ∧
      (([⟨6, none, .entered⟩] : List Entry).any fun x => x.slot.isSome) = false ∧
      (c.race.lights ≠ lightsAt c.race.options 2000000 c.clock.time) ∧ s.race.enterPending = true := by
  unfold State.Hears; decide

theorem witness_VerdictsAreFollowed_first :
    let s := station .racing .follower [rec' 6 .racing]
    s.Hears 1 ∧ s.race.raceNumber = some 5 ∧ s.clock.role ≠ .acting ∧ s.race.phase = .racing ∧
      s.car? 6 = some (rec' 6 .racing) ∧ (rec' 6 .racing).position ≠ some 1 ∧ s.race.green = some 2000000 := by
  unfold State.Hears; decide

/-- The bench that empties the hold set, in GRID and in a suspended COUNTDOWN, and one that does not. -/
theorem witness_HoldersAreBenchedAtTheirDeadline_last :
    let ref (p : Phase) (other : Option Nat) : State := inRace (fun r => { r with
      phase := p, green := none, remainder := some 9000
      entries := [⟨1, some 1, .gridded⟩, ⟨2, some 2, .gridded⟩, ⟨6, some 3, .gridded⟩]
      holdTable := [⟨6, some 1800000, 0⟩, ⟨1, none, 0⟩, ⟨2, other, 0⟩] }) (station p .acting [rec' 6 .gridded])
    (∀ s ∈ [ref .grid none, ref .grid (some 1900000), ref .countdown none],
      s.race.holdTable.find? (fun r => r.station == 6) = some ⟨6, some 1800000, 0⟩ ∧ s.clock.role = .acting ∧
      1800000 + min s.race.options.singleHold (s.race.options.holdBudget - 0) ≤ s.clock.time ∧
      s.race.options.minimumField ≤ ((s.race.entries.map fun e =>
        if e.station = 6 then { e with state := EntryState.benched } else e).filter fun e => e.state ≠ .benched).length ∧
      s.bus.outbound.control.length < 4) ∧
      (([⟨1, none, 0⟩, ⟨2, none, 0⟩] : List HoldRow).all fun r => r.holdStart.isNone) = true ∧
      (([⟨1, none, 0⟩, ⟨2, some 1900000, 0⟩] : List HoldRow).all fun r => r.holdStart.isNone) = false ∧
      ((ref .countdown none).race.remainder = some 9000 ∧ (ref .countdown none).race.green = none) := by decide

/-- A withdrawal, and the retire limit, while another entrant keeps the race open; a withdrawal of the last. -/
theorem witness_LeavesAndRetirementsAreTold :
    let on := inRace (fun r => { r with entries := [⟨1, some 1, .gridded⟩, ⟨6, some 2, .gridded⟩] })
      (atTime 2113001 (station .racing .acting [rec' 1 .racing, { rec' 6 .racing with report := some (rep 2063000 179500 4500) }]))
    let last := inRace (fun r => { r with entries := [⟨6, some 2, .gridded⟩] }) on
    (∀ s ∈ [on, last], s.race.raceNumber = some 5 ∧ s.Hears 6 ∧ s.clock.role = .acting ∧ s.race.phase = .racing ∧
      s.race.entries.any (fun e => e.station == 6) = true ∧
      s.car? 6 = some { rec' 6 .racing with report := some (rep 2063000 179500 4500) } ∧ s.race.green = some 2000000 ∧
      max 2000000 2063000 + s.race.options.retireLimit < s.clock.time ∧ s.bus.outbound.control.length < 4) ∧
      on.race.entries.any (fun e => e.station != 6 && running on e) = true ∧
      last.race.entries.any (fun e => e.station != 6 && running last e) = false := by
  unfold State.Hears; decide

theorem witness_ResultsAreTakenWhole_end :
    let s := station .finishing .follower [rec' 6 .racing]
    s.race.raceNumber = some 5 ∧ s.Hears 1 ∧ s.clock.role ≠ .acting ∧ s.race.phase = .finishing := by
  unfold State.Hears; decide

/-- No boundary passed, a sector passed, the first lap line and a later one, by a RACING and by a SILENT car. -/
theorem witness_ReportMovesProgressByTheDelta_laps :
    let car (p : Int) (state : CarState) : CarRecord := { rec' 6 state with
      p := some p, pmax := some p, report := some (rep 2063000 0 4500), lineTime := some 2001000, silentSince := some 2065001 }
    let s (c : CarRecord) : State := station .racing .follower [c]
    (∀ x ∈ [(500 : Int), 499500, 999500], ∀ st ∈ [CarState.racing, .silent],
      (s (car x st)).car? 6 = some (car x st) ∧ (s (car x st)).track = some track0 ∧ (car x st).p = some x ∧
      (car x st).pmax = some x ∧ (s (car x st)).race.green = some 2000000 ∧ 2000000 ≤ (rep 2063500 600 4500).stamp) ∧
      track0.boundaries 3 500 600 = [] ∧ track0.boundaries 3 179500 180500 = [1] ∧ track0.boundaries 3 499500 500500 = [3] ∧
      track0.boundaries 3 999500 1000500 = [6] ∧ (1 ≠ 3 * track0.S ∧ 3 ≠ 3 * track0.S ∧ 6 ≠ 3 * track0.S) ∧
      (1 % track0.S ≠ 0 ∧ 3 % track0.S = 0 ∧ 6 % track0.S = 0 ∧ 3 = track0.S ∧ 6 ≠ track0.S) ∧
      track0.boundaries 3 179000 1000000 = [1, 2, 3, 4, 5, 6] ∧ ¬2000000 ≤ (rep 1999999 600 4500).stamp ∧
      ((s (rec' 6 .racing)).car? 6 = some (rec' 6 .racing) ∧ (rec' 6 .racing).p = none ∧
        track0.boundaries 3 0 180000 = [1]) := by decide +kernel

/-- A finish on the acting referee whose settle window has passed when the report is taken, and one on a follower. -/
theorem witness_ReportMovesProgressByTheDelta_finish :
    let c : CarRecord := { rec' 6 .silent with
      p := some 1499700, pmax := some 1499700, lineTime := some 2757900, report := some (rep 3134500 499700 4500) }
    let s (r : Role) := station .racing r [c]
    (∀ r ∈ [Role.acting, .follower], (s r).car? 6 = some c ∧ (s r).track = some track0 ∧ (s r).race.green = some 2000000 ∧
      (s r).race.phase = .racing ∧ c.state = .silent ∧ c.pmax = some 1499700 ∧ c.position = none) ∧
      (track0.boundaries 3 1499700 1500000).contains (3 * track0.S) = true ∧
      ((s .acting).takeReport 6 (rep 3134567 0 4500)).finish.waiting.map PendingFinish.station = [6] ∧
      ((atTime 3136000 (s .acting)).takeReport 6 (rep 3134567 0 4500)).finish.verdictCount = 1 := by decide +kernel

/-- The same report on the acting referee, with a finish waiting that is not due. -/
theorem witness_CrossingTheFinishIsAProvisionalFinish_listed :
    let c : CarRecord := { rec' 6 .racing with p := some 1499700, pmax := some 1499700, report := some (rep 3134500 499700 4500) }
    let s := atTime 3134567 { station .racing .acting [c] with finish := ⟨0, [⟨1, 3134000, some 1, false⟩], none⟩ }
    let x := crossingTime s.race.options.silenceLimit 2000000 (some ⟨1499700, 3134500⟩) ⟨1500000, 3134567⟩ 1500000
    s.car? 6 = some c ∧ s.track = some track0 ∧ s.race.green = some 2000000 ∧ s.clock.role = .acting ∧ s.race.phase = .racing ∧
      c.state = .racing ∧ c.position = none ∧ 1499700 < (s.race.options.laps * track0.L : Nat) ∧
      ((s.race.options.laps * track0.L : Nat) : Int) = 1499700 + movement track0.L (rep 3134500 499700 4500) (rep 3134567 0 4500) ∧
      s.finish.waiting.all (fun y => y.station != 6 && decide (s.clock.time < y.tf + s.race.options.settleWindow)) = true ∧
      s.clock.time < x.1 + s.race.options.settleWindow := by decide +kernel

/-- A frame behind one in flight, one behind a purged frame, an empty, a held and a flying slot, and a FIFO with room,
with a frame to replace, and full. -/
theorem witness_FramesAreSentAndRetried_places :
    let fly (k : FrameKind) (purged : Option PurgeCause) (sl : Slot) (line : LineState) : State := inBus (fun b => { b with
      line := line, inFlight := some ⟨k, 2, .report 5 (rep 1 2 3), purged⟩
      outbound := Outbound.empty.update k (fun _ => sl) id }) sector1
    let r := fly .report none ⟨some ⟨.report 5 (rep 1 2 3), 0⟩, some (.report 5 (rep 2 2 3))⟩
    let p := fly .report (some .raceOrNumber) ⟨some ⟨.report 5 (rep 1 2 3), 0⟩, none⟩
    let fifo (n : Nat) : State := inBus (fun b => { b with
      outbound := { b.outbound with control := ⟨.entries ⟨5, .entry, none, []⟩, 0⟩ :: List.replicate n ⟨.abort 5 .requested, 0⟩ } }) sector1
    (∀ l ∈ [LineState.arbitrating, .sending], (r l).bus.line = l ∧ (r l).bus.leaving = .no ∧ (p l).bus.leaving = .no ∧
      (r l).bus.inFlight.map Flight.purged = some none ∧ (p l).bus.inFlight.map Flight.purged = some (some .raceOrNumber)) ∧
      (r .sending).bus.outbound.followUp .report = some (.report 5 (rep 2 2 3)) ∧ FrameKind.report ≠ .claim ∧
      ((Frame.leave 5).kind ≠ .verdict ∧ (Frame.leave 5).kind ≠ .control ∧ (Frame.leave 5).kind ≠ .report) ∧
      ((Frame.abort 5 .requested).kind = .control ∧ (Frame.entries ⟨5, .grid, none, []⟩).kind = .control) ∧
      ((fifo 0).bus.outbound.control.length < 4 ∧ (fifo 3).bus.outbound.control.length = 4 ∧
        (fifo 3).bus.outbound.control.head? = some ⟨.entries ⟨5, .entry, none, []⟩, 0⟩) := by decide

/-- Station 2 alone may act: in each phase, with no finish due and an entrant that keeps the race open; RESULTS with a list
and without. -/
theorem witness_TimersAndLimitsRunOut_succession :
    let ref (p : Phase) : State := inClock (fun c => { c with watchdog := some 0, referee := some 1 })
      (inRace (fun r => { r with entries := [⟨6, some 1, .gridded⟩] })
        (station p .follower [{ rec' 1 .finished with provisionalTf := some 1999999 }, rec' 6 .racing]))
    let held : State := { ref .results with finish := ⟨1, [], some ⟨5, []⟩⟩ }
    (∀ p ∈ [Phase.entry, .grid, .countdown, .racing, .finishing, .results], let s := ref p
      s.dir.number = some 2 ∧ s.dir.numbering = .numbered ∧ s.clock.role = .follower ∧ s.clock.watchdog = some 0 ∧
      s.race.phase = p ∧ s.dir.entries.all (fun e => decide (2 ≤ e.number) || !e.live || e.info.any (fun a => !a.eligible) ||
        s.clock.referee == some e.number) = true ∧ s.bus.outbound.control.length < 4 ∧ s.race.options.policy ≠ .coast ∧
      s.cars.all (fun c => c.provisionalTf.all fun tf => decide (s.clock.time < tf + s.race.options.settleWindow)) = true ∧
      s.race.entries.any (running s) = true) ∧
      (ref .results).finish.results = none ∧ held.finish.results.isSome = true := by decide

/-- WAITING for station 1, its watchdog out, and station 1 unheard too long; the same limit while CLAIMING and with nobody
waited for. -/
theorem witness_TimersAndLimitsRunOut_candidate :
    let w := inClock (fun c => { c with role := .waiting, candidate := some 1, watchdog := some 0 })
      (atTime 2019900 (station .lobby .follower [rec' 1 .idle]))
    let c := inDir (fun d => { d with numbering := .claiming, number := none })
      (atTime 2019900 (station .claiming .follower [rec' 1 .idle]))
    let f := atTime 2019900 (station .lobby .follower [rec' 1 .idle])
    (w.dir.number = some 2 ∧ w.clock.candidate = some 1 ∧ w.dir.numbering = .numbered ∧ w.clock.role = .waiting ∧
      w.clock.watchdog = some 0) ∧
      (∀ s ∈ [w, c, f], s.dir.entry? 1 = some (known 1) ∧ s.dir.number ≠ some 1 ∧
        (known 1).lastHeard + 200 * (known 1).unit ≤ s.clock.time ∧ (s.race.phase = .lobby ∨ s.race.phase = .claiming)) ∧
      (f.dir.numbering ≠ .claiming ∧ f.clock.role ≠ .waiting ∧ f.clock.candidate = none) ∧
      (c.dir.numbering = .claiming ∧ c.clock.role ≠ .waiting ∧ c.flying .claim = false) := by decide

/-- A target at local race time and one 100 ahead with nothing due, in every phase and role that hears a BEAT. -/
theorem witness_BeatsSetTheClock_forward :
    ∀ t ∈ [1999998, 2000098], ∀ r ∈ [Role.follower, .ineligible, .waiting, .acting],
      ∀ p ∈ [Phase.claiming, .lobby, .entry, .grid, .countdown, .racing, .finishing, .results],
      let s := inRace (fun x => { x with green := some 2090000 }) (station p r [])
      s.Hears 1 ∧ s.clock.time ≤ t + s.clock.latency ∧ (followed 1 (t + s.clock.latency) s).nextDue = none ∧
        s.race.raceNumber = some 5 ∧ s.race.raceNumber ≠ some 0 ∧
        t + s.clock.latency < s.clock.time + 200 * s.clock.followed.getD s.clock.beatPeriod := by
  unfold State.Hears; decide +kernel

/-- A step past a silent moment and a QUIET limit, in that order, with nothing left after the two; and one past two QUIET
limits and the removal of the station waited for, after which this station acts. -/
theorem witness_BeatsSetTheClock_two :
    let next (x : State) : State := match x.nextDue with
      | some (_, d) => x.meet d
      | none => x
    let q := inRace (fun r => { r with green := some 1990000 })
      (station .racing .follower [{ rec' 6 .racing with report := some (rep 1998000 0 0) }])
    let w := inClock (fun c => { c with role := .waiting, candidate := some 6 }) (station .lobby .follower [rec' 6 .idle])
    (q.Hears 1 ∧ (followed 1 2000700 q).nextDue = some (2000001, .silent 6) ∧
      (next (followed 1 2000700 q)).nextDue = some (2000700, .quiet 6) ∧
      (Nat.iterate next 2 (followed 1 2000700 q)).nextDue = none ∧
      (Nat.iterate next 2 (followed 1 2000700 q)).clock.role ≠ .acting) ∧
      (w.Hears 1 ∧ w.clock.role ≠ .acting ∧ (Nat.iterate next 3 (followed 1 2019900 w)).nextDue = none ∧
        (Nat.iterate next 3 (followed 1 2019900 w)).clock.role = .acting ∧
        (Nat.iterate next 3 (followed 1 2019900 w)).ownStation = some 2) := by
  unfold State.Hears; decide +kernel

/-- Each phase on the order, held and carried, with the G held and another; no entry old enough to be removed. -/
theorem witness_PhasesFollowTheReferee_moves :
    (∀ p ∈ [Phase.lobby, .entry, .grid, .countdown, .racing, .finishing, .results], let s := station p .follower [rec' 6 .gridded]
      s.Hears 1 ∧ s.race.raceNumber = (if 5 = 0 then none else some 5) ∧ s.clock.role = .follower ∧
        s.race.green = some 2000000 ∧ s.race.green ≠ some 2010000 ∧
        s.dir.entries.all (fun e => s.dir.number == some e.number || e.number == 1 ||
          decide (s.clock.time < e.lastHeard + 200 * e.unit)) = true ∧ 1 ≤ s.clock.followed.getD s.clock.beatPeriod) ∧
      (after (.raceSetup 1 ⟨5, .racing, some 2000000, Config.defaultOptions, ⟨7, 0#16⟩⟩)
        (station .countdown .follower [rec' 6 .gridded])).notices.list.map Notice.body =
          [.lights 5 (some 2000000), .phase .racing .countdown (some 5) none, .order none (some 6), .go (some 2000000)] := by
  unfold State.Hears; decide +kernel

/-- No G and a phase from COUNTDOWN on, from ENTRY and from GRID; with a G, a later phase and an earlier one. -/
theorem witness_EntriesSetTheCars_moves :
    let s (p : Phase) (g : Option Nat) := inRace (fun r => { r with green := g }) (station p .follower [rec' 6 .entered])
    (∀ p ∈ [Phase.entry, .grid, .countdown, .racing], ∀ g ∈ [none, some 2000000], (s p g).Hears 1 ∧
      (s p g).race.raceNumber = some 5 ∧ (s p g).clock.role ≠ .acting ∧ 1 ≤ (s p g).clock.followed.getD (s p g).clock.beatPeriod ∧
      (s p g).race.green = g) ∧
      (after (.entries 1 ⟨5, .racing, none, []⟩) (s .entry none)).race.phase = .grid ∧
      (after (.entries 1 ⟨5, .racing, none, []⟩) (s .grid none)).race.phase = .grid ∧
      (after (.entries 1 ⟨5, .racing, none, []⟩) (s .grid (some 2000000))).race.phase = .racing ∧
      (after (.entries 1 ⟨5, .entry, none, []⟩) (s .racing (some 2000000))).race.phase = .entry := by
  unfold State.Hears; decide +kernel

/-- The own ENTER, listed, appended, with another track and with a full list; the own LEAVE in ENTRY, on a grid with and
without the field, and in the race with another entrant open and without one. -/
theorem witness_EnterAndLeaveAskTheReferee_acting :
    let full := inRace (fun r => { r with entries := (List.range 9).filterMap fun k => if k = 2 then none else some ⟨k, none, .entered⟩ })
      entry3
    let lone := inRace (fun r => { r with entries := [⟨6, none, .entered⟩] }) entry3
    let other := inRace (fun r => { r with trackRef := none }) lone
    let race := inRace (fun r => { r with phase := .racing, entries := [⟨2, some 1, .gridded⟩, ⟨6, some 2, .gridded⟩] })
      (station .racing .acting [rec' 2 .racing, rec' 6 .racing])
    let last := inRace (fun r => { r with entries := [⟨2, some 1, .gridded⟩] }) race
    let short := inRace (fun r => { r with entries := [⟨2, some 1, .gridded⟩] }) grid3
    (∀ s ∈ [entry3, full, lone, other, race, last, short, grid3], s.link.Ready ∧ s.ownStation = some 2 ∧ s.track = some track0 ∧
      s.clock.role = .acting ∧ (s.ownCar?.any fun c =>
        c.state == .entered || c.state == .gridded || c.state == .racing || c.state == .silent) = true) ∧
      (entry3.race.entries.any fun e => e.station == 2) = true ∧ (lone.race.entries.any fun e => e.station == 2) = false ∧
      (full.race.entries.any fun e => e.station == 2) = false ∧ 8 ≤ full.race.entries.length ∧
      lone.race.trackRef.map TrackRef.signature = some track0.signature ∧
      other.race.trackRef.map TrackRef.signature ≠ some track0.signature ∧
      (grid3.race.phase = .grid ∧ ¬((grid3.race.entries.filter fun e => e.station ≠ 2).filter fun e =>
        e.state ≠ .benched).length < grid3.race.options.minimumField ∧
        ((short.race.entries.filter fun e => e.station ≠ 2).filter fun e => e.state ≠ .benched).length <
          short.race.options.minimumField) ∧
      (race.race.entries.any fun e => e.station != 2 && running race e) = true ∧
      (last.race.entries.any fun e => e.station != 2 && running last e) = false := by
  unfold CabinetLink.Ready; decide +kernel

/-- The own row holding and not, alone and not, in GRID and in a countdown that runs and one that is suspended; a field
that is met; and a station with no row. -/
theorem witness_ReadyAndHoldAskTheReferee_acting :
    let s (p : Phase) (g : Option Nat) (own other : Option Nat) := atTime 1989999 (inRace (fun r => { r with
      green := g, remainder := some 9000, entries := [⟨2, some 1, .gridded⟩, ⟨6, some 2, .gridded⟩]
      holdTable := [⟨2, own, 0⟩, ⟨6, other, 0⟩] }) (station p .acting [rec' 2 .gridded]))
    (∀ x ∈ [s .grid none none none, s .grid none (some 1980000) none, s .grid none (some 1980000) (some 1980000),
        s .countdown (some 2000000) none none, s .countdown none (some 1980000) none],
      x.link.Ready ∧ x.ownStation = some 2 ∧ x.clock.role = .acting ∧ x.ownCar? = some (rec' 2 .gridded) ∧
      ((x.race.holdTable.find? fun r => r.station == 2).isSome = true) ∧
      ((x.race.entries.find? fun e => e.station == 2).any fun e => e.state ≠ .benched) = true ∧
      x.race.options.minimumField ≤ (x.race.entries.filter fun e => e.state ≠ .benched).length ∧
      x.race.green.all (fun g => decide (x.clock.time + x.race.options.lightInterval < g)) = true) ∧
      ((inRace (fun r => { r with holdTable := [] }) (s .grid none none none)).race.holdTable.find? fun r =>
        r.station == 2) = none := by
  unfold CabinetLink.Ready; decide +kernel

/-- Two requests behind a RESTART with an error reply between them, and a second RESTART; an OVERRUN owed with the first; a
DETACH; and a request at an idle link. -/
theorem witness_RequestsWaitBehindARestart_several :
    let performed : QueueEntry := { restarting with reply := some (.answer 0x85#8 .done .empty) }
    let wait (r : Request) : QueueEntry := ⟨some r, none, false, []⟩
    let error : QueueEntry := ⟨none, some (.linkError .check none), false, []⟩
    let s := inLink ⟨.hunt, 0, [performed, wait (.fetch (.form ())), error, wait (.fetch (.form ()))]⟩ sector1
    let d := inLink ⟨.length, 3, [{ performed with owed := [none] }, wait (.detach (.form ())), restarting]⟩ sector1
    (performed.request = some (.restart (.form ())) ∧ performed.reply.isSome = true ∧ performed.sent = false) ∧
      (after .replySent s).link.queue.map (fun e => e.reply.isSome) = [true, true, true] ∧
      (after .replySent d).link.queue.map (fun e => e.reply.isSome) = [true, true, false] ∧
      (after .replySent d).link.receiver = .length ∧ sector1.link.Ready ∧ isRestart (.fetch (.form ())) = false := by
  unfold CabinetLink.Ready; decide +kernel

/-- Station 2 among stations whose records stand in step with the directory. -/
def inStep (p : Phase) : State := station p .follower [rec' 1 .idle, rec' 2 .gridded, rec' 6 .gridded]

/-- In every phase held the tables stand in step and no other station is unheard too long: a return to LOBBY by RACE SETUP
or BEAT of the race held, by another race number, and by ENTRIES. -/
theorem witness_PhasesFollowTheReferee_lobby :
    ∀ p ∈ [Phase.lobby, .entry, .grid, .countdown, .racing, .finishing, .results],
      (inStep p).TablesOk ∧ (inStep p).Hears 1 ∧ (inStep p).dir.numbering = .numbered ∧
      (inStep p).race.raceNumber = some 5 ∧ (inStep p).clock.role = .follower ∧
      (inStep p).dir.entries.all (fun e => (inStep p).dir.number == some e.number || e.number == 1 ||
        decide ((inStep p).clock.time < e.lastHeard + 200 * e.unit)) = true ∧
      1 ≤ (inStep p).clock.followed.getD (inStep p).clock.beatPeriod := by
  intro p hp
  refine ⟨⟨by decide +revert, by decide +revert, by decide +revert, ?_, ?_⟩, ?_⟩
  · simp [State.ownStation, inStep, station, known]
  · simp [inStep, station, Directory.initial]
  · unfold State.Hears; decide +revert

/-- A LEAVE of the last holder and of one that leaves another holding, in GRID and in a suspended COUNTDOWN, with the
field met. -/
theorem witness_LeavesAreDecidedByThePhase_last :
    let ref (p : Phase) (other : Option Nat) : State := inRace (fun r => { r with
      green := none, remainder := some 9000
      entries := [⟨1, some 1, .gridded⟩, ⟨2, some 2, .gridded⟩, ⟨6, some 3, .gridded⟩]
      holdTable := [⟨6, some 1800000, 0⟩, ⟨1, none, 0⟩, ⟨2, other, 0⟩] }) (station p .acting [rec' 2 .gridded, rec' 6 .gridded])
    (∀ s ∈ [ref .grid none, ref .grid (some 1900000), ref .countdown none], s.Hears 6 ∧ s.link.Ready ∧
      s.race.raceNumber = some 5 ∧ s.clock.role = .acting ∧ s.race.entries.any (fun e => e.station == 6) = true ∧
      s.race.options.minimumField ≤
        ((s.race.entries.filter fun e => e.station ≠ 6).filter fun e => e.state ≠ .benched).length ∧
      s.bus.outbound.control.length < 4) ∧
      (after (.entryLeave 6 5) (ref .grid none)).race.green = some 2050000 ∧
      (after (.entryLeave 6 5) (ref .grid (some 1900000))).race.phase = .grid ∧
      (after (.entryLeave 6 5) (ref .countdown none)).race.green = some 2009000 ∧
      (after (.leave (.form ())) (ref .countdown (some 1900000))).race.phase = .countdown := by
  unfold State.Hears CabinetLink.Ready; decide +kernel

/-- The dead heat's head due with no other entrant open, and with the other still to be judged; the grace deadline with
nothing pending. -/
theorem witness_FinishesAreJudgedAfterTheSettleWindow_told :
    let late := atTime 2001000 judging
    let alone := inRace (fun r => { r with entries := [⟨1, some 1, .gridded⟩, ⟨2, some 2, .benched⟩] })
      { late with finish := ⟨0, [⟨1, 2000000, some 1, false⟩], none⟩ }
    let ended := inRace (fun r => { r with phase := .finishing, graceDeadline := some 2000000 })
      { late with finish := ⟨0, [], none⟩ }
    (∀ s ∈ [late, alone], s.finish.waiting.head? = some ⟨1, 2000000, some 1, false⟩ ∧ s.clock.role = .acting ∧
      s.race.phase = .racing ∧ 2000000 + s.race.options.settleWindow ≤ s.clock.time ∧ s.race.green = some 2000000 ∧
      s.bus.outbound.verdict.length < 8 ∧ s.bus.outbound.control.length < 4) ∧
      alone.race.entries.any (fun x => x.station ≠ 1 && running alone x) = false ∧
      late.race.entries.any (fun x => x.station ≠ 1 && running late x) = true ∧
      (ended.finish.waiting = [] ∧ ended.clock.role = .acting ∧ ended.race.graceDeadline = some 2000000 ∧
        ended.bus.outbound.control.length < 4) := by decide +kernel

end Sys2Proof.Tests
end

section
/-! Progress arithmetic and the track: the delta choice (R12), crossing times (R16, R17), where boundaries lie (R6), and
TRACK by its checks (R2, R3). -/

namespace Sys2Proof.Machine

/-! ## The delta choice (R11, R12) -/

/-- `ceilDiv` is the least whole number not below the quotient. -/
theorem ceilDiv_le_iff (a b k : Int) (hb : 0 < b) : ceilDiv a b ≤ k ↔ a ≤ k * b := by
  have hdiv := Int.le_ediv_iff_mul_le (a := -k) (b := -a) hb
  have hneg : -k * b = -(k * b) := Int.neg_mul k b
  unfold ceilDiv
  omega

theorem le_ceilDiv_mul (a b : Int) (hb : 0 < b) : a ≤ ceilDiv a b * b := (ceilDiv_le_iff a b _ hb).mp le_rfl

theorem ceilDiv_mul_lt (a b : Int) (hb : 0 < b) : ceilDiv a b * b < a + b := by
  have hless : ¬ a ≤ (ceilDiv a b - 1) * b := fun h => by
    have := (ceilDiv_le_iff a b _ hb).mpr h
    omega
  rw [Int.sub_mul] at hless
  omega

/-- The delta lies at or above E − L/2 and below E + L/2 (R12). -/
theorem deltaChoice_bounds (L dPrev d : Nat) (e : Int) (hL : 0 < L) :
    2 * e - L ≤ 2 * deltaChoice L dPrev d e ∧ 2 * deltaChoice L dPrev d e < 2 * e + L := by
  have hb : (0 : Int) < 2 * L := by omega
  have hlow := le_ceilDiv_mul (2 * (e - ((d : Int) - dPrev) % L) - L) (2 * L) hb
  have hhigh := ceilDiv_mul_lt (2 * (e - ((d : Int) - dPrev) % L) - L) (2 * L) hb
  rw [Int.mul_left_comm] at hlow hhigh
  unfold deltaChoice
  constructor <;> linarith

/-- Of the values a whole number of laps apart, the one within half a lap of E is nearest to E; at another equally near
the upper end is left out, so it is the smaller. -/
theorem abs_sub_le_of_half_lap (L e x k : Int) (hlow : 2 * e - L ≤ 2 * x) (hhigh : 2 * x < 2 * e + L) :
    |x - e| ≤ |x + k * L - e| ∧ (|x + k * L - e| = |x - e| → x ≤ x + k * L) := by
  have hL : 0 < L := by omega
  obtain hk | rfl | hk := lt_trichotomy k 0
  · have hback : k * L ≤ -1 * L := Int.mul_le_mul_of_nonneg_right (by omega) hL.le
    have hnear : |x - e| < |x + k * L - e| := by
      rw [abs_of_neg (show x + k * L - e < 0 by omega), abs_lt]
      omega
    exact ⟨hnear.le, fun heq => absurd heq hnear.ne'⟩
  · simp
  · have hon : 1 * L ≤ k * L := Int.mul_le_mul_of_nonneg_right (by omega) hL.le
    refine ⟨?_, fun _ => by omega⟩
    rw [abs_of_nonneg (show 0 ≤ x + k * L - e by omega), abs_le]
    omega

/-- A value congruent to the delta stands a whole number of laps from it. -/
theorem congruent_eq_deltaChoice_add (L dPrev d : Nat) (e m : Int) :
    ∃ k : Int, ((d : Int) - dPrev) % L + m * L = deltaChoice L dPrev d e + k * L :=
  ⟨m - ceilDiv (2 * (e - ((d : Int) - dPrev) % L) - L) (2 * L), by unfold deltaChoice; ring⟩

/-- A record with progress and a last report moves by the delta of the two reports (R10 step 1, R12). -/
theorem CarRecord.advance_of_moved (L : Nat) (start : Bool) (c : CarRecord) (p : Int) (prev new : Report)
    (hp : c.p = some p) (hr : c.report = some prev) :
    c.advance L start new = { c with p := some (p + movement L prev new), report := some new } := by
  simp [CarRecord.advance, CarRecord.moved, hp, hr]

/-- Settles O12: the least n puts the delta within half a lap of E, and no value a lap or more away is nearer. -/
theorem deltaChoiceIsNearest : Obligations.DeltaChoiceIsNearest := by
  refine ⟨fun L dPrev d e hL => ?_, fun L start c p prev new hp hr => c.advance_of_moved L start p prev new hp hr⟩
  have hL' : (0 : Int) < L := by omega
  obtain ⟨hlow, hhigh⟩ := deltaChoice_bounds L dPrev d e hL
  refine ⟨Int.emod_nonneg _ hL'.ne', Int.emod_lt_of_pos _ hL', ?least, ?nearest, ?smaller, hlow, hhigh⟩
  case least =>
    have hb : (0 : Int) < 2 * L := by omega
    exact ⟨_, rfl, le_ceilDiv_mul _ _ hb, fun k hk => (ceilDiv_le_iff _ _ k hb).mpr hk⟩
  case nearest =>
    intro m
    obtain ⟨k, hk⟩ := congruent_eq_deltaChoice_add L dPrev d e m
    rw [hk]
    exact (abs_sub_le_of_half_lap L e _ k hlow hhigh).1
  case smaller =>
    intro m
    obtain ⟨k, hk⟩ := congruent_eq_deltaChoice_add L dPrev d e m
    rw [hk]
    exact (abs_sub_le_of_half_lap L e _ k hlow hhigh).2

/-! ## Crossing times (R16, R17), one equation for each row -/

section CrossingTimes

variable (limit G : Nat) (old new : ReportPoint) (B : Int)

theorem crossingTime_first_report : crossingTime limit G none new B = (max new.stamp G, true) := rfl

theorem crossingTime_already_passed (hB : B ≤ old.p) : crossingTime limit G (some old) new B = (G, false) := by
  simp [crossingTime, rawCrossingTime, hB]

theorem crossingTime_same_stamp (hB : old.p < B) (ht : new.stamp = old.stamp) :
    crossingTime limit G (some old) new B = (max new.stamp G, false) := by
  simp [crossingTime, rawCrossingTime, ht, not_le.mpr hB]

theorem crossingTime_after_silence (hB : old.p < B) (ht : old.stamp + limit < new.stamp) :
    crossingTime limit G (some old) new B = (max new.stamp G, true) := by
  have hne : new.stamp ≠ old.stamp := by omega
  have hover : limit < new.stamp - old.stamp := by omega
  simp [crossingTime, rawCrossingTime, not_le.mpr hB, hne, hover]

/-- The formula of R16, as a quotient of whole numbers: both distances are above 0. -/
theorem crossingTime_interpolated (hB : old.p < B) (hnew : B ≤ new.p) (ht : old.stamp < new.stamp)
    (hlimit : new.stamp ≤ old.stamp + limit) :
    crossingTime limit G (some old) new B =
      (max (old.stamp + (new.stamp - old.stamp) * (B - old.p).toNat / (new.p - old.p).toNat) G, false) := by
  have hne : new.stamp ≠ old.stamp := by omega
  have hwithin : ¬ limit < new.stamp - old.stamp := by omega
  have hB' : B - old.p = ((B - old.p).toNat : Int) := by omega
  have hnew' : new.p - old.p = ((new.p - old.p).toNat : Int) := by omega
  have hquotient : (((new.stamp - old.stamp : Nat) : Int) * (B - old.p) / (new.p - old.p)).toNat =
      (new.stamp - old.stamp) * (B - old.p).toNat / (new.p - old.p).toNat := by
    rw [hB', hnew', ← Int.natCast_mul, ← Int.natCast_ediv, Int.toNat_natCast, Int.toNat_natCast, Int.toNat_natCast]
  simp only [crossingTime, rawCrossingTime, not_le.mpr hB, hne, hwithin, if_false, hquotient]

/-- A boundary at or below the new progress is interpolated no later than the new stamp. -/
theorem interpolation_le_stamp (hnew : B ≤ new.p) (ht : old.stamp ≤ new.stamp) :
    old.stamp + (new.stamp - old.stamp) * (B - old.p).toNat / (new.p - old.p).toNat ≤ new.stamp := by
  have hdist : (B - old.p).toNat ≤ (new.p - old.p).toNat := by omega
  have hshare : (new.stamp - old.stamp) * (B - old.p).toNat / (new.p - old.p).toNat ≤ new.stamp - old.stamp :=
    Nat.div_le_of_le_mul (by rw [Nat.mul_comm]; exact Nat.mul_le_mul_right _ hdist)
  omega

/-- No crossing time lies before G or outside the two stamps, whichever row gives it. -/
theorem crossingTime_bounds (hnew : B ≤ new.p) (ht : old.stamp ≤ new.stamp) (hG : G ≤ new.stamp)
    (hpassed : B ≤ old.p → old.stamp ≤ G) :
    G ≤ (crossingTime limit G (some old) new B).1 ∧ old.stamp ≤ (crossingTime limit G (some old) new B).1 ∧
      (crossingTime limit G (some old) new B).1 ≤ new.stamp := by
  by_cases hB : B ≤ old.p
  · rw [crossingTime_already_passed limit G old new B hB]
    exact ⟨le_rfl, hpassed hB, hG⟩
  rw [not_le] at hB
  obtain heq | hlt := ht.eq_or_lt
  · rw [crossingTime_same_stamp limit G old new B hB heq.symm]
    omega
  by_cases hlimit : new.stamp ≤ old.stamp + limit
  · have hle := interpolation_le_stamp old new B hnew ht
    rw [crossingTime_interpolated limit G old new B hB hnew hlt hlimit]
    exact ⟨le_max_right _ _, (Nat.le_add_right _ _).trans (le_max_left _ _), max_le hle hG⟩
  · rw [crossingTime_after_silence limit G old new B hB (by omega)]
    omega

end CrossingTimes

/-- Settles O13: one equation for each row of R16 and R17, and the bounds that hold in all of them. -/
theorem crossingTimesAreInterpolated : Obligations.CrossingTimesAreInterpolated := fun limit G new B =>
  ⟨crossingTime_first_report limit G new B, fun old =>
    ⟨crossingTime_already_passed limit G old new B, crossingTime_same_stamp limit G old new B,
      crossingTime_after_silence limit G old new B, crossingTime_interpolated limit G old new B,
      crossingTime_bounds limit G old new B⟩⟩

/-! ## The checks of a track (R2) -/

theorem risingFrom_iff_isChain (a : Nat) (l : List Nat) : risingFrom a l = true ↔ (a :: l).IsChain (· < ·) := by
  induction l generalizing a with
  | nil => simp [risingFrom]
  | cons b bs ih => simp [risingFrom, ih]

/-- Each start is below the next. -/
theorem risingFrom_iff_getD (a : Nat) (l : List Nat) :
    risingFrom a l = true ↔ ∀ i, i + 1 < (a :: l).length → (a :: l).getD i 0 < (a :: l).getD (i + 1) 0 := by
  rw [risingFrom_iff_isChain, List.isChain_iff_getElem]
  refine forall_congr' fun i => forall_congr' fun hi => ?_
  rw [List.getD_eq_getElem _ _ hi, List.getD_eq_getElem _ _ (by omega)]

theorem getLastD_eq_getD (l : List Nat) : l.getLastD 0 = l.getD (l.length - 1) 0 := by
  rw [List.getLastD_eq_getLast?, List.getLast?_eq_getElem?, List.getD_eq_getElem?_getD]

/-- The geometry checks of R2, one by one. -/
theorem trackValid_iff (f : TrackFields) :
    trackValid f = true ↔ 10000 ≤ f.L ∧ f.L ≤ 4000000 ∧ 1 ≤ f.S ∧ f.S ≤ 8 ∧ f.starts.length = f.S ∧
      f.starts[0]? = some 0 ∧ (∀ i, i + 1 < f.starts.length → f.starts.getD i 0 < f.starts.getD (i + 1) 0) ∧
      f.starts.getD (f.starts.length - 1) 0 < f.L := by
  obtain ⟨id, L, S, starts⟩ := f
  cases starts with
  | nil => simp [trackValid]
  | cons s0 rest =>
    simp only [trackValid, getLastD_eq_getD, risingFrom_iff_getD, Bool.and_eq_true, decide_eq_true_eq, and_assoc,
      List.getElem?_cons_zero, Option.some.injEq]

/-! ## Where boundaries lie (R6, R7) -/

/-- What a loaded track keeps of the checks of R2. -/
structure Track.Valid (t : Track) : Prop where
  length_pos : 0 < t.L
  sectors_pos : 0 < t.S
  starts_length : t.starts.length = t.S
  start_zero : t.starts.getD 0 0 = 0
  starts_rise : ∀ i, i + 1 < t.S → t.starts.getD i 0 < t.starts.getD (i + 1) 0
  last_start : t.starts.getD (t.S - 1) 0 < t.L

theorem Track.valid_of_trackValid (f : TrackFields) (h : trackValid f = true) (sig : Crc16) :
    Track.Valid ⟨f.id, f.L, f.S, f.starts, sig⟩ := by
  obtain ⟨hL, -, hS, -, hlen, hzero, hrise, hlast⟩ := (trackValid_iff f).mp h
  rw [hlen] at hrise hlast
  exact ⟨by simp only; omega, hS, hlen, by simp [List.getD_eq_getElem?_getD, hzero], hrise, hlast⟩

theorem Track.lapLine_iff (t : Track) (b : Nat) : t.lapLine b = true ↔ b % t.S = 0 := decide_eq_true_iff

theorem Track.position_lapLine (t : Track) (ht : t.Valid) (b : Nat) (hb : t.lapLine b = true) :
    t.position b = b / t.S * t.L := by
  rw [Track.position, (t.lapLine_iff b).mp hb, ht.start_zero, Nat.add_zero]

theorem Track.position_finishBoundary (t : Track) (ht : t.Valid) (n : Nat) :
    t.position (t.finishBoundary n) = n * t.L := by
  have hline : t.lapLine (t.finishBoundary n) = true := (t.lapLine_iff _).mpr (Nat.mul_mod_left n t.S)
  rw [t.position_lapLine ht _ hline, Track.finishBoundary, Nat.mul_div_cancel n ht.sectors_pos]

/-- The next boundary lies further on: in the same lap by the rising starts, at the next lap line because every start is
below L. -/
theorem Track.position_lt_succ (t : Track) (ht : t.Valid) (b : Nat) : t.position b < t.position (b + 1) := by
  have hsplit := Nat.div_add_mod b t.S
  have hmod := Nat.mod_lt b ht.sectors_pos
  obtain hsame | hlast : b % t.S + 1 < t.S ∨ b % t.S + 1 = t.S := by omega
  · have hnext : b + 1 = b % t.S + 1 + t.S * (b / t.S) := by omega
    have hdiv : (b + 1) / t.S = b / t.S := by
      rw [hnext, Nat.add_mul_div_left _ _ ht.sectors_pos, Nat.div_eq_of_lt hsame, Nat.zero_add]
    have hrest : (b + 1) % t.S = b % t.S + 1 := by
      rw [hnext, Nat.add_mul_mod_self_left, Nat.mod_eq_of_lt hsame]
    rw [Track.position, Track.position, hdiv, hrest]
    exact Nat.add_lt_add_left (ht.starts_rise _ hsame) _
  · have hnext : b + 1 = t.S * (b / t.S + 1) := by rw [Nat.mul_add_one]; omega
    have hline : t.lapLine (b + 1) = true := (t.lapLine_iff _).mpr (by rw [hnext, Nat.mul_mod_right])
    have hdiv : (b + 1) / t.S = b / t.S + 1 := by rw [hnext, Nat.mul_div_cancel_left _ ht.sectors_pos]
    have hstart : t.starts.getD (b % t.S) 0 < t.L := by
      rw [show b % t.S = t.S - 1 by omega]
      exact ht.last_start
    rw [t.position_lapLine ht _ hline, hdiv, Nat.add_one_mul, Track.position]
    exact Nat.add_lt_add_left hstart _

theorem Track.position_strictMono (t : Track) (ht : t.Valid) : StrictMono t.position :=
  strictMono_nat_of_lt_succ (t.position_lt_succ ht)

/-- The boundaries looked up stand in increasing index (R7). -/
theorem Track.boundaries_increase (t : Track) (n : Nat) (a c : Int) : (t.boundaries n a c).Pairwise (· < ·) :=
  (List.pairwise_lt_range.map (· + 1) fun _ _ h => Nat.add_lt_add_right h 1).filter _

theorem Track.mem_boundaries (t : Track) (n : Nat) (a c : Int) (b : Nat) :
    b ∈ t.boundaries n a c ↔ 1 ≤ b ∧ b ≤ t.finishBoundary n ∧ a < t.position b ∧ (t.position b : Int) ≤ c := by
  have hindex : (∃ i < t.finishBoundary n, i + 1 = b) ↔ 1 ≤ b ∧ b ≤ t.finishBoundary n :=
    ⟨fun ⟨i, hi, hib⟩ => by omega, fun ⟨h1, h2⟩ => ⟨b - 1, by omega, by omega⟩⟩
  simp only [Track.boundaries, List.mem_filter, List.mem_map, List.mem_range, hindex, Bool.and_eq_true,
    decide_eq_true_eq, and_assoc]

/-- Settles O14. -/
theorem boundariesLieWhereTheTrackSays : Obligations.BoundariesLieWhereTheTrackSays := by
  rintro f t hf rfl
  have ht := Track.valid_of_trackValid f hf (trackSignature f)
  exact ⟨fun _ => rfl, Track.lapLine_iff _, Track.position_lapLine _ ht,
    fun n => ⟨rfl, Track.position_finishBoundary _ ht n⟩, fun _ _ h => Track.position_strictMono _ ht h,
    fun n a c => ⟨Track.boundaries_increase _ n a c, Track.mem_boundaries _ n a c⟩⟩

/-! ## A request at a ready link (R184) -/

/-- A request taken at a ready link: the part as its owner leaves it, and the link with the answer, where the owner
leaves the link alone. -/
theorem exec_request_answered (c : Instr) (r : Request) (s t : State) (a : Answer) (hc : requestOf c = some r)
    (h : s.link.Ready) (hb : requestBad r = false) (hr : isRestart r = false)
    (htake : takeRequest r (s.withReceiver .hunt) = (a, t.withReceiver .hunt)) (hlink : t.link = s.link) :
    exec c s = .next { t with link := s.link.answered r a } := by
  rw [exec_request c r s hc, arrive_ready r s h hb hr, htake, ← hlink]
  rfl

/-! ## TRACK (R2, R3) -/

/-- A TRACK with valid geometry is loaded as carried, and in LOBBY goes into every record. -/
def State.trackLoaded (f : TrackFields) (s : State) : State :=
  { s with
    track := some ⟨f.id, f.L, f.S, f.starts, trackSignature f⟩
    cars := if s.race.phase = .lobby then s.cars.map (CarRecord.onNewTrack f.L) else s.cars }

section TakeTrack

variable (s : State) (f : TrackFields)

theorem State.takeTrack_refused (hphase : ¬(s.race.phase = .detached ∨ s.race.phase = .lobby)) :
    s.takeTrack f = refuse .refusedState s :=
  if_pos (not_or.mp hphase)

theorem State.takeTrack_bad (hphase : s.race.phase = .detached ∨ s.race.phase = .lobby)
    (hbad : ¬trackValid f = true) : s.takeTrack f = refuse .badValue s := by
  rw [State.takeTrack, if_neg (by tauto), if_pos (by simpa using hbad)]

theorem State.takeTrack_valid (hphase : s.race.phase = .detached ∨ s.race.phase = .lobby)
    (hvalid : trackValid f = true) :
    s.takeTrack f = (⟨.done, .track (trackSignature f)⟩, s.trackLoaded f) := by
  rw [State.takeTrack, if_neg (by tauto), if_neg (by simp [hvalid])]
  by_cases hlobby : s.race.phase = .lobby <;> simp only [State.trackLoaded, hlobby, if_true, if_false] <;> rfl

/-- What TRACK does at a ready link is what `takeTrack` does behind a receiver back in HUNT. -/
theorem exec_track (t : State) (a : Answer) (h : s.link.Ready)
    (htake : (s.withReceiver .hunt).takeTrack f = (a, t.withReceiver .hunt)) (hlink : t.link = s.link) :
    exec (.track (.form f)) s = .next { t with link := s.link.answered (.track (.form f)) a } :=
  exec_request_answered _ (.track (.form f)) s t a rfl h rfl rfl htake hlink

end TakeTrack

/-- Settles O28, by the three checks of `takeTrack`. -/
theorem trackIsLoadedWhole : Obligations.TrackIsLoadedWhole := by
  intro s f hready request allowed bad signature
  have hvalid : ¬bad ↔ trackValid f = true := by
    simp only [bad, trackValid_iff, not_or, not_lt, not_le, not_exists, not_and, ne_eq, not_not]
  refine ⟨fun hphase => ?refused, fun hphase hbad => ?bad, fun hphase hgood => ?loaded⟩
  case refused => exact exec_track s f s _ hready (State.takeTrack_refused _ f hphase) rfl
  case bad =>
    exact exec_track s f s _ hready (State.takeTrack_bad _ f hphase fun h => hvalid.mpr h hbad) rfl
  case loaded =>
    exact exec_track s f (s.trackLoaded f) _ hready (State.takeTrack_valid _ f hphase (hvalid.mp hgood)) rfl

end Sys2Proof.Machine
end

section
/-! ASK CAR (R46): the extrapolated progress a reply carries (R22, R23), and the car a name stands for. -/

namespace Sys2Proof.Machine

/-! ## Extrapolation (R22, R23) -/

section Extrapolation

variable (s : State) (c : CarRecord)

/-- The caps of R22's table. -/
theorem extrapolationCapOf_eq_some_iff (cap : Nat) :
    extrapolationCapOf s c = some cap ↔ s.race.phase ≠ .results ∧
      (c.state = .racing ∧ cap = s.race.options.extrapolationCap ∨
        (c.state = .silent ∧ s.race.options.policy = .coast) ∧ cap = s.race.options.coastCap) := by
  by_cases hphase : s.race.phase = .results
  · simp [extrapolationCapOf, hphase]
  cases hstate : c.state <;> simp [extrapolationCapOf, hphase, hstate, eq_comm]

/-- The cars R22's table gives no cap. -/
theorem extrapolationCapOf_eq_none_iff :
    extrapolationCapOf s c = none ↔ s.race.phase = .results ∨
      c.state ≠ .racing ∧ ¬(c.state = .silent ∧ s.race.options.policy = .coast) := by
  by_cases hphase : s.race.phase = .results
  · simp [extrapolationCapOf, hphase]
  cases hstate : c.state <;> simp [extrapolationCapOf, hphase, hstate]

theorem extrapolated_eq_none (h : s.track = none ∨ c.p = none) : extrapolated s c = none := by
  obtain htrack | hp := h
  · rw [extrapolated, htrack]
  · cases htrack : s.track <;> rw [extrapolated, htrack, hp]

section OnTrack

variable {s c} {track : Track} {p : Int} (htrack : s.track = some track) (hp : c.p = some p)
include htrack hp

theorem extrapolated_of_no_cap (hcap : extrapolationCapOf s c = none) : extrapolated s c = some p := by
  simp only [extrapolated, htrack, hp, hcap]

theorem extrapolated_of_cap {cap : Nat} {r : Report} (hcap : extrapolationCapOf s c = some cap)
    (hreport : c.report = some r) :
    extrapolated s c = some (runForward p r.v (s.clock.time - r.stamp) cap) := by
  simp only [extrapolated, htrack, hp, hcap, hreport]

end OnTrack

end Extrapolation

/-- Truncation toward zero truncates the magnitude, and the age counts up to the cap. -/
theorem natAbs_runForward_sub_le (p v : Int) (age cap : Nat) :
    (runForward p v age cap - p).natAbs ≤ v.natAbs * cap / 10000 :=
  calc (runForward p v age cap - p).natAbs = v.natAbs * min age cap / 10000 := by
        rw [runForward, add_sub_cancel_left, Int.natAbs_tdiv, Int.natAbs_mul, Int.natAbs_natCast]; rfl
    _ ≤ v.natAbs * cap / 10000 := Nat.div_le_div_right (Nat.mul_le_mul_left _ (min_le_right age cap))

/-! ## The car a name stands for (R46) -/

section NamedCar

variable (s : State)

theorem State.named_station {n : Nat} (hn : n ≤ 7) : s.named (.station n) = some (some n) := if_pos hn

theorem State.named_station_outside {n : Nat} (hn : 7 < n) : s.named (.station n) = none := if_neg (by omega)

theorem State.named_slot {k : Nat} (h1 : 1 ≤ k) (h8 : k ≤ 8) :
    s.named (.slot k) = some ((s.dir.slots.find? (·.slot == k)).map SlotEntry.station) := if_pos ⟨h1, h8⟩

theorem State.named_slot_outside {k : Nat} (hk : k < 1 ∨ 8 < k) : s.named (.slot k) = none := if_neg (by omega)

theorem State.named_slot_unmapped {k : Nat} (h1 : 1 ≤ k) (h8 : k ≤ 8) (hslots : ∀ e ∈ s.dir.slots, e.slot ≠ k) :
    s.named (.slot k) = some none := by
  have hfind : s.dir.slots.find? (·.slot == k) = none :=
    List.find?_eq_none.mpr fun e he => by simpa using hslots e he
  rw [s.named_slot h1 h8, hfind, Option.map_none]

theorem State.named_slot_mapped {k : Nat} {e : SlotEntry} (h1 : 1 ≤ k) (h8 : k ≤ 8)
    (hfind : s.dir.slots.find? (·.slot == k) = some e) : s.named (.slot k) = some (some e.station) := by
  rw [s.named_slot h1 h8, hfind, Option.map_some]

end NamedCar

/-! ## ASK CAR at a ready link (R46, R47) -/

section AskCar

variable {s : State} {n : CarName}

theorem State.takeAskCar_bad (hname : s.named n = none) : s.takeAskCar n = refuse .badValue s := by
  rw [State.takeAskCar, hname]

theorem State.takeAskCar_missing {st : Option Nat} (hname : s.named n = some st) (hcar : st.bind s.car? = none) :
    s.takeAskCar n = refuse .noSuchCar s := by
  simp only [State.takeAskCar, hname, hcar]

theorem State.takeAskCar_found {st : Option Nat} {c : CarRecord} (hname : s.named n = some st)
    (hcar : st.bind s.car? = some c) : s.takeAskCar n = (⟨.done, .askCar (s.carReply c)⟩, s) := by
  simp only [State.takeAskCar, hname, hcar]

variable (h : s.link.Ready)
include h

theorem exec_askCar {a : Answer} (htake : (s.withReceiver .hunt).takeAskCar n = (a, s.withReceiver .hunt)) :
    exec (.askCar (.form n)) s = .next { s with link := s.link.answered (.askCar (.form n)) a } :=
  exec_request_answered _ (.askCar (.form n)) s s a rfl h rfl rfl htake rfl

theorem exec_askCar_bad (hname : s.named n = none) :
    exec (.askCar (.form n)) s = .next { s with link := s.link.answered (.askCar (.form n)) ⟨.badValue, .empty⟩ } :=
  exec_askCar h (State.takeAskCar_bad hname)

theorem exec_askCar_missing {st : Option Nat} (hname : s.named n = some st) (hcar : st.bind s.car? = none) :
    exec (.askCar (.form n)) s = .next { s with link := s.link.answered (.askCar (.form n)) ⟨.noSuchCar, .empty⟩ } :=
  exec_askCar h (State.takeAskCar_missing hname hcar)

theorem exec_askCar_found {st : Option Nat} {c : CarRecord} (hname : s.named n = some st)
    (hcar : st.bind s.car? = some c) :
    exec (.askCar (.form n)) s =
      .next { s with link := s.link.answered (.askCar (.form n)) ⟨.done, .askCar (s.carReply c)⟩ } :=
  exec_askCar h (State.takeAskCar_found hname hcar)

end AskCar

/-- Settles O23: the extrapolation by the cap of R22's table, the answer by what the name stands for. -/
theorem askCarAnswersByItsTable : Obligations.AskCarAnswersByItsTable := by
  refine ⟨fun s c => ⟨extrapolated_eq_none s c, fun track p htrack hp => ?progress⟩, fun s h => ?answers⟩
  case progress =>
    refine ⟨fun hnone => ?kept, fun r hreport hphase cap hcap => ?run⟩
    case kept => exact extrapolated_of_no_cap htrack hp ((extrapolationCapOf_eq_none_iff s c).mpr hnone)
    case run =>
      have hrun := extrapolated_of_cap htrack hp ((extrapolationCapOf_eq_some_iff s c cap).mpr ⟨hphase, hcap⟩) hreport
      exact ⟨hrun, _, hrun, natAbs_runForward_sub_le ..⟩
  refine ⟨?stationBad, ?slotBad, ?unmapped, ?stationMissing, ?station, ?mapped⟩
  case stationBad => exact fun n hn => exec_askCar_bad h (s.named_station_outside hn)
  case slotBad => exact fun k hk => exec_askCar_bad h (s.named_slot_outside hk)
  case unmapped => exact fun k h1 h8 hslots => exec_askCar_missing h (s.named_slot_unmapped h1 h8 hslots) rfl
  case stationMissing => exact fun n hn hcar => exec_askCar_missing h (s.named_station hn) hcar
  case station => exact fun n c hn hcar => exec_askCar_found h (s.named_station hn) hcar
  case mapped =>
    intro k e h1 h8 hfind
    have hname := s.named_slot_mapped h1 h8 hfind
    exact ⟨exec_askCar_missing h hname, fun c => exec_askCar_found h hname⟩

end Sys2Proof.Machine
end

section
/-! TIME FORM: the printed form of a count (R120, R121), its packed digits (R205), and the reply (R122). -/

namespace Sys2Proof.Machine

/-! ## The form (R120) -/

/-- From 60,000,000 on the form stands at its limit. -/
theorem timeForm_of_le {e : Nat} (he : 60000000 ≤ e) : timeForm e = ⟨99, 59, 999, true⟩ := if_pos he

/-- Below the limit, minutes, seconds and milliseconds, the tenth dropped. -/
theorem timeForm_of_lt {e : Nat} (he : e < 60000000) :
    timeForm e = ⟨e / 600000, e % 600000 / 10000, e % 10000 / 10, false⟩ := if_neg (Nat.not_le.mpr he)

theorem timeForm_digits_le (e : Nat) :
    (timeForm e).minutes ≤ 99 ∧ (timeForm e).seconds ≤ 59 ∧ (timeForm e).milliseconds ≤ 999 := by
  obtain he | he := Nat.lt_or_ge e 60000000
  · have hminutes : e / 600000 ≤ 99 := by omega
    have hseconds : e % 600000 / 10000 ≤ 59 := by omega
    have hmilliseconds : e % 10000 / 10 ≤ 999 := by omega
    rw [timeForm_of_lt he]
    exact ⟨hminutes, hseconds, hmilliseconds⟩
  · rw [timeForm_of_le he]
    exact ⟨le_rfl, le_rfl, le_rfl⟩

/-- The result code of a form tells whether the count was above what the form can show. -/
theorem doneOr_timeForm_saturated (e : Nat) :
    doneOr (timeForm e).saturated = if 60000000 ≤ e then .adjusted else .done := by
  obtain he | he := Nat.lt_or_ge e 60000000
  · rw [timeForm_of_lt he, if_neg (Nat.not_le.mpr he)]
    rfl
  · rw [timeForm_of_le he, if_pos he]
    rfl

/-! ## The digits, packed (R205) -/

theorem packed_of_le {n : Nat} (hn : n ≤ 99) : packed n = byte (16 * (n / 10) + n % 10) := by
  rw [packed, Nat.mod_eq_of_lt (a := n / 10) (by omega)]

/-- The last two digits of a group of three. -/
theorem packed_mod_hundred (n : Nat) : packed (n % 100) = byte (16 * (n / 10 % 10) + n % 10) := by
  have htens : n % 100 / 10 % 10 = n / 10 % 10 := by omega
  have hones : n % 100 % 10 = n % 10 := by omega
  rw [packed, htens, hones]

/-- Two digits fill each of the minutes and the seconds. -/
theorem timeFormBytes_digits (minus : Bool) {t : TimeForm} (hminutes : t.minutes ≤ 99) (hseconds : t.seconds ≤ 99) :
    timeFormBytes minus t =
      [byte (16 * (t.minutes / 10) + t.minutes % 10), byte (16 * (t.seconds / 10) + t.seconds % 10),
        byte (t.milliseconds / 100), byte (16 * (t.milliseconds / 10 % 10) + t.milliseconds % 10),
        byte (t.saturated.toNat + 2 * minus.toNat)] := by
  rw [timeFormBytes, packed_of_le hminutes, packed_of_le hseconds, packed_mod_hundred]

/-! ## The reply (R121, R122) -/

section TakeTimeForm

variable (s : State)

theorem State.takeTimeForm_elapsed (e : Nat) :
    s.takeTimeForm (.elapsed e) =
      (⟨if 60000000 ≤ e then .adjusted else .done, .timeForm false (timeForm e)⟩, s) := by
  rw [← doneOr_timeForm_saturated]
  rfl

/-- A gap is shown by its magnitude, beside its sign (R121). -/
theorem State.takeTimeForm_gap (g : Int) :
    s.takeTimeForm (.gap g) =
      (⟨if 60000000 ≤ g.natAbs then .adjusted else .done, .timeForm (decide (g < 0)) (timeForm g.natAbs)⟩, s) := by
  rw [← doneOr_timeForm_saturated]
  rfl

theorem State.takeTimeForm_otherKind (k : Nat) : s.takeTimeForm (.otherKind k) = refuse .badValue s := rfl

theorem exec_timeForm {v : TimeValue} {a : Answer} (h : s.link.Ready)
    (htake : (s.withReceiver .hunt).takeTimeForm v = (a, s.withReceiver .hunt)) :
    exec (.timeForm (.form v)) s = .next { s with link := s.link.answered (.timeForm (.form v)) a } :=
  exec_request_answered _ (.timeForm (.form v)) s s a rfl h rfl rfl htake rfl

end TakeTimeForm

/-- Settles O25: the answer by the kind of the value, and the bytes from the bounds of the digits. -/
theorem timeFormConvertsACount : Obligations.TimeFormConvertsACount := by
  intro s h
  refine ⟨?elapsed, ?gap, ?otherKind, timeForm_digits_le, ?bytes⟩
  case elapsed => exact fun e => exec_timeForm s h (State.takeTimeForm_elapsed _ e)
  case gap => exact fun g => exec_timeForm s h (State.takeTimeForm_gap _ g)
  case otherKind => exact fun k => exec_timeForm s h (State.takeTimeForm_otherKind _ k)
  case bytes =>
    intro minus e
    obtain ⟨hminutes, hseconds, -⟩ := timeForm_digits_le e
    exact timeFormBytes_digits minus hminutes (hseconds.trans (by decide))

end Sys2Proof.Machine
end

section
/-! The Notice Queue: how a notice is taken (R194) and fetched (R196, R197), and when ATTN is low (R195). -/

namespace Sys2Proof.Machine

/-! ## ATTN (R195) -/

theorem State.attnLow_iff (s : State) : s.attnLow = true ↔ s.notices.list ≠ [] := by
  rw [State.attnLow, Bool.not_eq_true', ← Bool.not_eq_true, List.isEmpty_iff]

/-! ## Taking a notice (R194) -/

/-- The rows of R194 in which no waiting ORDER is rewritten. -/
theorem NoticeQueue.rewritesOrder_eq_false_iff (n : Notice) (q : NoticeQueue) :
    (n.isOrder && q.list.any Notice.isOrder) = false ↔ n.isOrder = false ∨ ∀ m ∈ q.list, m.isOrder = false := by
  simp only [Bool.and_eq_false_iff, List.any_eq_false, Bool.not_eq_true]

/-- In every row of R194 a notice waits afterwards: the rewritten ORDER, the one appended, or the 32 before it. -/
theorem NoticeQueue.accept_list_ne_nil (n : Notice) (q : NoticeQueue) : (q.accept n).list ≠ [] := by
  by_cases hrewrites : (n.isOrder && q.list.any Notice.isOrder) = true
  · obtain ⟨hn, hwaits⟩ := Bool.and_eq_true_iff.mp hrewrites
    obtain ⟨m, hm, -⟩ := List.any_eq_true.mp hwaits
    rw [accept_rewrites hn hwaits]
    exact mt List.map_eq_nil_iff.mp (List.ne_nil_of_mem hm)
  · rw [Bool.not_eq_true] at hrewrites
    obtain hroom | hfull := Nat.lt_or_ge q.list.length 32
    · rw [accept_appends hrewrites hroom]
      exact List.append_ne_nil_of_right_ne_nil _ (List.cons_ne_nil _ _)
    · rw [accept_drops hrewrites hfull]
      exact List.ne_nil_of_length_pos (Nat.lt_of_lt_of_le (by decide) hfull)

theorem State.raise_attnLow (b : NoticeBody) (s : State) : (s.raise b).attnLow = true :=
  (State.attnLow_iff _).mpr (NoticeQueue.accept_list_ne_nil _ _)

/-- Settles O16: the rows of R194 by what they need of the queue, and some notice waiting after each of them. -/
theorem noticesAreTakenByWhatTheQueueHolds : Obligations.NoticesAreTakenByWhatTheQueueHolds := by
  refine ⟨fun n q => ⟨?rewritten, ?appended, ?dropped⟩, fun b bs s => ⟨rfl, rfl, s.raise_attnLow b⟩⟩
  case rewritten => exact fun hn hwaits => NoticeQueue.accept_rewrites hn (List.any_eq_true.mpr hwaits)
  case appended =>
    exact fun hother hroom => NoticeQueue.accept_appends ((q.rewritesOrder_eq_false_iff n).mpr hother) hroom
  case dropped =>
    exact fun hother hfull => NoticeQueue.accept_drops ((q.rewritesOrder_eq_false_iff n).mpr hother) hfull

/-! ## FETCH (R196, R197) -/

theorem NoticeQueue.fetch_eq (now : Nat) (q : NoticeQueue) :
    q.fetch now =
      if q.list = [] ∨ q.dropped = 0 then ⟨q.list.drop 8, q.dropped⟩
      else ⟨q.list.drop 8 ++ [⟨now, .overflow q.dropped⟩], 0⟩ := by
  simp only [NoticeQueue.fetch, List.isEmpty_iff]

/-- What FETCH does at a ready link: the queue as `NoticeQueue.fetch` leaves it, and the reply with what it removed. -/
theorem exec_fetch {s : State} (h : s.link.Ready) :
    exec (.fetch (.form ())) s = .next { s with
      notices := s.notices.fetch s.clock.time
      link := s.link.answered (.fetch (.form ()))
        ⟨.done, .fetch (s.notices.list.take 8) (s.notices.fetch s.clock.time).list.length⟩ } :=
  exec_request_answered _ (.fetch (.form ())) s (s.withNotices (s.notices.fetch s.clock.time)) _ rfl h rfl rfl rfl rfl

/-- Settles O17: the queue of the statement is the one `NoticeQueue.fetch` leaves. -/
theorem fetchRemovesUpToEightNotices : Obligations.FetchRemovesUpToEightNotices := by
  intro s h q
  have hq : q = s.notices.fetch s.clock.time := (NoticeQueue.fetch_eq _ _).symm
  rw [hq]
  exact ⟨exec_fetch h, NoticeQueue.fetch_Ok _, State.attnLow_iff _⟩

end Sys2Proof.Machine
end
